-- ==== Sys2Proof/Word.lean ====
section
/-! DEFINITION. The word types of PNSC: the widths fixed by rules R8, R61, R62 and R91 of the spec. -/

namespace Sys2Proof

/-- A sample, a knob code or a byte of a carried word (`SAMPLE_W = 8`, R8; bytes, R66). -/
abbrev Byte := BitVec 8

/-- A time value: an unsigned count of milliseconds (`TIME_W = 32`, R8). -/
abbrev Time := BitVec 32

/-- A random draw (`R_W = 16`, R8). -/
abbrev Draw := BitVec 16

/-- A command word (`CMD_W = 128`, R8, R90). -/
abbrev CmdWord := BitVec 128

/-- A word returned by the read port (`RD_W = 32`, R8, R62). -/
abbrev ReadWord := BitVec 32

/-- A read-port address (R62). -/
abbrev ReadAddr := BitVec 5

end Sys2Proof
end

