-- ==== Sys2Proof/Machine/Regs.lean ====
section
/-! DEFINITION. The registers of PNSC: every element of the table of rule R20, with its width, and nothing
else. The two channels of R2 own one record each; everything else is shared. -/

namespace Sys2Proof.Machine

/-- `clk_state` (R26): the value 3 of its two-bit code is never produced, so it is no constructor here. -/
inductive ClkState where
  | unplugged
  | low
  | high
  deriving DecidableEq, Repr, Inhabited

/-- What one channel owns (R2): its register, its pulse state and its outputs. -/
structure ChanState where
  /-- `R[c]`, the 16-bit shift register (R21). -/
  R : BitVec 16
  /-- `act[c]`, set by every pulse trigger of the channel (R25, R31). -/
  act : Bool
  /-- `ptime[c]`, the time of the last pulse trigger (R31). -/
  ptime : Time
  /-- `S[c]`, the pitch value, 16-bit two's complement (R32, R44). -/
  S : BitVec 16
  /-- `pc[c]`, the pitch class (R32). -/
  pc : BitVec 4
  /-- `oct[c]`, the octave (R32). -/
  oct : BitVec 4
  /-- `M[c]`, the bipolar modulation value, 16-bit two's complement (R32, R45). -/
  M : BitVec 16
  deriving DecidableEq, Repr, Inhabited

/-- `LED[0]` .. `LED[5]`: six brightness codes (R33). -/
structure Leds where
  led0 : BitVec 8
  led1 : BitVec 8
  led2 : BitVec 8
  led3 : BitVec 8
  led4 : BitVec 8
  led5 : BitVec 8
  deriving DecidableEq, Repr, Inhabited

/-- The complete state of PNSC: exactly the elements of the table of R20. -/
structure Pnsc where
  /-- channel 1 (`c = 0`). -/
  ch1 : ChanState
  /-- channel 2 (`c = 1`). -/
  ch2 : ChanState
  /-- `clk_state` (R26). -/
  clkState : ClkState
  /-- `clk_last`, the last clock sample (R27). -/
  clkLast : BitVec 8
  /-- `last_tap` (R28). -/
  lastTap : Time
  /-- `last_trig` (R28). -/
  lastTrig : Time
  /-- `interval`, in time units (R28). -/
  interval : BitVec 11
  /-- `prev_sel`, the selector of the latest `TICK` or `TAPTMP` (R28). -/
  prevSel : BitVec 2
  /-- `len`, the resolved length (R29). -/
  len : BitVec 5
  /-- `len_idx`, the index of `len` in `LENGTHS` (R29). -/
  lenIdx : BitVec 3
  /-- `div`, the resolved divisor (R29). -/
  div : BitVec 5
  /-- `scale_idx`, the resolved scale index (R29). -/
  scaleIdx : BitVec 3
  /-- `div_cnt`, the divider's trigger count (R30). -/
  divCnt : BitVec 4
  /-- `LED[0..5]` (R33). -/
  led : Leds
  /-- `RESULT` (R34). -/
  result : BitVec 32
  /-- `disp`, the length-changed window flag (R35). -/
  disp : Bool
  /-- `len_time`, the time of the latest length change (R35). -/
  lenTime : Time
  deriving DecidableEq, Repr, Inhabited

end Sys2Proof.Machine
end

