-- ==== Sys2Proof/Config.lean ====
section
/-! DEFINITION. The OPEN parameters of rule R9, as one configuration record, and the two free values of the model as
constants without a body: the one open FUNCTION among the parameters (`STEADY`), and what a read of `LENTIME` returns
while its register holds no specified value. R9: "The model takes them as arguments (a configuration record)."
The constraints R9 lists are `Config.wellFormed` (Sys2Proof/WellFormed.lean); the reference values are
`Config.p0` (Sys2Proof/Machine/Params.lean). -/

namespace Sys2Proof

/-- The OPEN parameter `STEADY` (R9, R275) is a function, and the state of this model is plain data, so a
configuration NAMES its steady-state display: the reference mapping of R275, or some other one. What the other
ones compute is `Config.steadyOther`, about which nothing can be proved. DESIGN CHOICE (notes/assumptions/3). -/
inductive SteadyChoice where
  /-- The P0 mapping of R275. -/
  | reference
  /-- Any other mapping; the number only tells two such mappings apart. -/
  | other (id : Nat)
  deriving DecidableEq, Repr

/-- The configuration of one PNSC (R9). The sizes and bounds are plain numbers: no rule treats them as bits. -/
structure Config where
  /-- `IDLE_LO` -/
  idleLo : Nat
  /-- `IDLE_HI` -/
  idleHi : Nat
  /-- `THRESHOLD_LOW` -/
  thresholdLow : Nat
  /-- `THRESHOLD_HIGH` -/
  thresholdHigh : Nat
  /-- `TAP_POS` -/
  tapPos : Nat
  /-- `SCALE_OF_SEL`: any integers -/
  scaleOfSel : List Int
  /-- `SCALE_ROM` -/
  scaleRom : List (List Nat)
  /-- `NOTE_SPAN` -/
  noteSpan : Nat
  /-- `BASE_NOTE` -/
  baseNote : Nat
  /-- `REF_NOTE` -/
  refNote : Nat
  /-- `MOD_BIAS` -/
  modBias : Nat
  /-- `PULSE_HOLD` -/
  pulseHold : Nat
  /-- `PULSE_K` -/
  pulseK : Nat
  /-- `TAP_INTERVAL_RESET` -/
  tapIntervalReset : Nat
  /-- `LENPAT` -/
  lenPat : List (BitVec 6)
  /-- `STEADY` -/
  steady : SteadyChoice
  deriving DecidableEq, Repr

/-- The open steady-state displays (R275: "the mapping is an OPEN parameter, a pure function of the state and
`now` returning six codes"): one uninterpreted function per number. It has no body, so every statement that
speaks of it holds for every such function. -/
opaque Config.steadyOther : Nat → Machine.Pnsc → Time → Machine.Leds

/-- What a read of `LENTIME` returns while `disp = 0`: "any value" (R35, R49, U4), so an uninterpreted function of the
registers, which are all the state there is (R20). It has no body. DESIGN CHOICE (notes/assumptions/6). -/
opaque Config.unspecifiedLenTime : Machine.Pnsc → Time

end Sys2Proof
end

