-- ==== Sys2Proof/Machine/Params.lean ====
section
/-! DEFINITION. The constants of rules R7 and R8 by name, and the reference parameter set P0 of R9. -/

namespace Sys2Proof.Machine

/-- `LENGTHS` (R7). -/
def lengths : List Nat := [2, 3, 4, 5, 6, 8, 12, 16]

/-- `DIVISORS` (R7). -/
def divisors : List Nat := [1, 2, 3, 4, 6, 8, 12, 16]

/-- `LEN_DEFAULT` (R7). -/
def lenDefault : Nat := 16

/-- `DIV_DEFAULT` (R7). -/
def divDefault : Nat := 1

/-- `NSCALES` (R7). -/
def nScales : Nat := 7

/-- `T_MIN` (R8). -/
def tMin : Nat := 100

/-- `T_MAX` (R8). -/
def tMax : Nat := 2000

/-- `T_DISP` (R8). -/
def tDisp : Nat := 1500

/-- `KMAX` (R8). -/
def kMax : Nat := 255

/-- `CV_SPAN` (R8). -/
def cvSpan : Nat := 120

/-- `PULSE_FULL` (R8). -/
def pulseFull : Nat := 65535

/-- The chromatic scale, the fixed entry 0 of every `SCALE_ROM` (R9, R192). -/
def chromatic : List Nat := [0, 1, 2, 3, 4, 5, 6, 7, 8, 9, 10, 11]

/-- The reference contents of `SCALE_ROM` (R192). -/
def scaleRomP0 : List (List Nat) :=
  [ chromatic,
    [0, 2, 4, 5, 7, 9, 11],
    [0, 2, 3, 5, 7, 8, 10],
    [0, 3, 5, 7, 10],
    [0, 2, 3, 5, 7, 9, 10],
    [0, 1, 3, 7, 8],
    [0, 2, 4, 6, 8, 10] ]

end Sys2Proof.Machine

namespace Sys2Proof

/-- The reference parameter set P0 (R9). -/
def Config.p0 : Config where
  idleLo := 124
  idleHi := 132
  thresholdLow := 140
  thresholdHigh := 160
  tapPos := 0
  scaleOfSel := [0, 1, 2]
  scaleRom := Machine.scaleRomP0
  noteSpan := 60
  baseNote := 60
  refNote := 60
  modBias := 0
  pulseHold := 10
  pulseK := 62340
  tapIntervalReset := 500
  lenPat := [0b000010, 0b000011, 0b000100, 0b000101, 0b000110, 0b001000, 0b001100, 0b010000]
  steady := .reference

end Sys2Proof
end

