-- ==== Sys2Proof/Syntax.lean ====
section
/-! DEFINITION. What the host can ask of PNSC: one constructor of `Instr` per row of spec/opcode_table.json (the
commands of R92, the reserved opcodes of R95, the read-port accesses of R40 and R98), the two ports they travel
through (`Access`), and the assembler line of R100. Every field is an unsigned number of the width R91 gives it,
so a field cannot be out of range; a command carries exactly the fields R93 says it reads. -/

namespace Sys2Proof

/-- A channel (R2): `ch = 0` is channel 1, `ch = 1` is channel 2. -/
inductive Channel where
  | ch1
  | ch2
  deriving DecidableEq, Repr, Inhabited

/-- The instructions: the rows of spec/opcode_table.json. -/
inductive Instr where
  /-- opcode 0x0 (R280) -/
  | nop
  /-- opcode 0x1 (R260) -/
  | tick (sel : BitVec 2) (clk mod kx ky km : Byte) (now : Time) (r1 r2 : Draw)
  /-- opcode 0x2 (R240) -/
  | resolve (sel : BitVec 2) (mod kx ky km : Byte) (now : Time)
  /-- opcode 0x3 (R120) -/
  | clkrec (clk : Byte)
  /-- opcode 0x4 (R140) -/
  | taptmp (sel : BitVec 2) (now : Time)
  /-- opcode 0x5 (R160); the length is `lm1 + 1` -/
  | srstep (ch : Channel) (km : Byte) (lm1 : BitVec 4) (r1 : Draw)
  /-- opcode 0x6 (R180) -/
  | divtick
  /-- opcode 0x7 (R199); `clk` is the byte to quantize -/
  | quant (clk : Byte) (sc : BitVec 3)
  /-- opcode 0x8 (R200) -/
  | emit (ch : Channel) (now : Time)
  /-- opcode 0x9 (R220) -/
  | ptrig (ch : Channel) (now : Time)
  /-- opcode 0xA (R270) -/
  | display (now : Time)
  /-- reserved opcode 0xB (R95, R280) -/
  | reservedB
  /-- reserved opcode 0xC (R95, R280) -/
  | reservedC
  /-- reserved opcode 0xD (R95, R280) -/
  | reservedD
  /-- reserved opcode 0xE (R95, R280) -/
  | reservedE
  /-- reserved opcode 0xF (R95, R280) -/
  | reservedF
  /-- read-port address 0x00: `RD RESULT` (R34) -/
  | rdResult (t : Time)
  /-- read-port address 0x01: `RD STATUS` (R41) -/
  | rdStatus (t : Time)
  /-- read-port address 0x02: `RD CLKLAST` (R42) -/
  | rdClklast (t : Time)
  /-- read-port address 0x03: `RD REG1` (R43) -/
  | rdReg1 (t : Time)
  /-- read-port address 0x04: `RD REG2` (R43) -/
  | rdReg2 (t : Time)
  /-- read-port address 0x05: `RD PITCH1` (R44) -/
  | rdPitch1 (t : Time)
  /-- read-port address 0x06: `RD PITCH2` (R44) -/
  | rdPitch2 (t : Time)
  /-- read-port address 0x07: `RD MOD1` (R45) -/
  | rdMod1 (t : Time)
  /-- read-port address 0x08: `RD MOD2` (R45) -/
  | rdMod2 (t : Time)
  /-- read-port address 0x09: `RD PULSE1` (R46) -/
  | rdPulse1 (t : Time)
  /-- read-port address 0x0A: `RD PULSE2` (R46) -/
  | rdPulse2 (t : Time)
  /-- read-port address 0x0B: `RD PTIME1` (R47) -/
  | rdPtime1 (t : Time)
  /-- read-port address 0x0C: `RD PTIME2` (R47) -/
  | rdPtime2 (t : Time)
  /-- read-port address 0x0D: `RD LEDA` (R48) -/
  | rdLeda (t : Time)
  /-- read-port address 0x0E: `RD LEDB` (R48) -/
  | rdLedb (t : Time)
  /-- read-port address 0x0F: `RD TAPINT` (R49) -/
  | rdTapint (t : Time)
  /-- read-port address 0x10: `RD TAPLAST` (R49) -/
  | rdTaplast (t : Time)
  /-- read-port address 0x11: `RD TRIGLAST` (R49) -/
  | rdTriglast (t : Time)
  /-- read-port address 0x12: `RD LENTIME` (R49) -/
  | rdLentime (t : Time)
  /-- read-port address 0x13: reserved read address 0x13 (R40) -/
  | rdReserved13 (t : Time)
  /-- read-port address 0x14: reserved read address 0x14 (R40) -/
  | rdReserved14 (t : Time)
  /-- read-port address 0x15: reserved read address 0x15 (R40) -/
  | rdReserved15 (t : Time)
  /-- read-port address 0x16: reserved read address 0x16 (R40) -/
  | rdReserved16 (t : Time)
  /-- read-port address 0x17: reserved read address 0x17 (R40) -/
  | rdReserved17 (t : Time)
  /-- read-port address 0x18: reserved read address 0x18 (R40) -/
  | rdReserved18 (t : Time)
  /-- read-port address 0x19: reserved read address 0x19 (R40) -/
  | rdReserved19 (t : Time)
  /-- read-port address 0x1A: reserved read address 0x1A (R40) -/
  | rdReserved1A (t : Time)
  /-- read-port address 0x1B: reserved read address 0x1B (R40) -/
  | rdReserved1B (t : Time)
  /-- read-port address 0x1C: reserved read address 0x1C (R40) -/
  | rdReserved1C (t : Time)
  /-- read-port address 0x1D: reserved read address 0x1D (R40) -/
  | rdReserved1D (t : Time)
  /-- read-port address 0x1E: reserved read address 0x1E (R40) -/
  | rdReserved1E (t : Time)
  /-- read-port address 0x1F: reserved read address 0x1F (R40) -/
  | rdReserved1F (t : Time)
  deriving DecidableEq, Repr

/-- One use of a port (R60): a word written to the command port (R61), or a read of the read port, which presents
an address and a time (R40, R62, R98). -/
inductive Access where
  | command (w : CmdWord)
  | read (a : ReadAddr) (t : Time)
  deriving DecidableEq, Repr

/-- The named fields of the command word (R91), but for the opcode. -/
inductive Field where
  | sel | ch | clk | mod | kx | ky | km | lm1 | sc | now | r1 | r2
  deriving DecidableEq, Repr

/-- The mnemonics an assembler line can begin with (R92, R100). -/
inductive Mnemonic where
  | NOP | TICK | RESOLVE | CLKREC | TAPTMP | SRSTEP | DIVTICK | QUANT | EMIT | PTRIG | DISPLAY
  deriving DecidableEq, Repr

/-- An assembler line (R100): a mnemonic with `field=value` pairs in any order, or `RD <name> t=<time>`. The
tokens of the line stand here as data; the text they are printed as is notation. -/
inductive AsmLine where
  | cmd (m : Mnemonic) (fields : List (Field × Nat))
  | rd (a : ReadAddr) (t : Nat)
  deriving DecidableEq, Repr

end Sys2Proof
end

