-- ==== Sys2Proof/WellFormed.lean ====
section
/-! DEFINITION. The well-formedness checks. An `Instr` needs none: each of its fields has exactly the width R91
gives it and no value of any field is illegal (R95, R96, R97), so every term of `Instr` is well formed. What can
be ill formed is a configuration (the constraints of R9) and an assembler line (R100). -/

namespace Sys2Proof

/-- `IDLE_LO <= IDLE_HI`, both in 0..255 (R9). -/
def Config.idleOk (c : Config) : Bool := decide (c.idleLo ≤ c.idleHi) && decide (c.idleHi ≤ 255)

/-- `THRESHOLD_HIGH > THRESHOLD_LOW`, both in 0..255 (R9). -/
def Config.thresholdOk (c : Config) : Bool :=
  decide (c.thresholdLow < c.thresholdHigh) && decide (c.thresholdHigh ≤ 255)

/-- `TAP_POS` in 0..2 (R9). -/
def Config.tapPosOk (c : Config) : Bool := decide (c.tapPos ≤ 2)

/-- `SCALE_OF_SEL` has three entries; any integer is allowed (R9). -/
def Config.scaleOfSelOk (c : Config) : Bool := decide (c.scaleOfSel.length = 3)

/-- One scale (R9, R192): not empty, over 0..11, and long enough for the octave to fit four bits. -/
def Config.scaleOk (c : Config) (sc : List Nat) : Bool :=
  !sc.isEmpty && sc.all (fun x => decide (x ≤ 11)) && decide (c.noteSpan ≤ 16 * sc.length)

/-- `SCALE_ROM`: seven scales, entry 0 chromatic (R9, R192). -/
def Config.scaleRomOk (c : Config) : Bool :=
  decide (c.scaleRom.length = Machine.nScales) && decide (c.scaleRom.head? = some Machine.chromatic)
    && c.scaleRom.all c.scaleOk

/-- `NOTE_SPAN` in 1..80 (R9). -/
def Config.noteSpanOk (c : Config) : Bool := decide (1 ≤ c.noteSpan) && decide (c.noteSpan ≤ 80)

/-- `BASE_NOTE` and `REF_NOTE` in 0..127 (R9). -/
def Config.notesOk (c : Config) : Bool := decide (c.baseNote ≤ 127) && decide (c.refNote ≤ 127)

/-- `MOD_BIAS` in 0..255 (R9). -/
def Config.modBiasOk (c : Config) : Bool := decide (c.modBias ≤ 255)

/-- `PULSE_HOLD` and `PULSE_K` in 0..65535 (R9). -/
def Config.pulseOk (c : Config) : Bool := decide (c.pulseHold ≤ 65535) && decide (c.pulseK ≤ 65535)

/-- `TAP_INTERVAL_RESET` in `T_MIN..T_MAX` (R9). -/
def Config.tapIntervalOk (c : Config) : Bool :=
  decide (Machine.tMin ≤ c.tapIntervalReset) && decide (c.tapIntervalReset ≤ Machine.tMax)

/-- `LENPAT` has eight entries (R9). -/
def Config.lenPatOk (c : Config) : Bool := decide (c.lenPat.length = 8)

/-- The constraints of R9: "Constraints listed are all the model may assume." -/
def Config.wellFormed (c : Config) : Bool :=
  c.idleOk && c.thresholdOk && c.tapPosOk && c.scaleOfSelOk && c.scaleRomOk && c.noteSpanOk && c.notesOk
    && c.modBiasOk && c.pulseOk && c.tapIntervalOk && c.lenPatOk

/-- The lowest bit and the width of a field of the command word (R91). -/
def Field.place : Field → Nat × Nat
  | .sel => (4, 2)
  | .ch => (6, 1)
  | .clk => (8, 8)
  | .mod => (16, 8)
  | .kx => (24, 8)
  | .ky => (32, 8)
  | .km => (40, 8)
  | .lm1 => (48, 4)
  | .sc => (52, 3)
  | .now => (64, 32)
  | .r1 => (96, 16)
  | .r2 => (112, 16)

/-- An assembler line is well formed when every value fits its field (R91) and no field is given twice. R100 does not
say what any other line is: DESIGN CHOICE, assumption log 11. -/
def AsmLine.wellFormed : AsmLine → Bool
  | .cmd _ fields =>
    fields.all (fun fv => decide (fv.2 < 2 ^ fv.1.place.2)) && decide (fields.map Prod.fst).Nodup
  | .rd _ t => decide (t < 2 ^ 32)

end Sys2Proof
end

