-- ==== Sys2Proof/Decode.lean ====
section
/-! DEFINITION. The command encoding of R90 to R98: the decoder, total on every command word and every read
address (R95: no encoding is illegal), the byte carriage of R66, which rejects by name a byte string that is no
command word, then the encoder and the assembler of R100. -/

namespace Sys2Proof

/-- The fields of the `CMD` format (R91), as they stand in the word; the reserved bits [7] and [63:55] are in no
field (R95). -/
structure CmdFields where
  op : BitVec 4 := 0
  sel : BitVec 2 := 0
  ch : BitVec 1 := 0
  clk : BitVec 8 := 0
  mod : BitVec 8 := 0
  kx : BitVec 8 := 0
  ky : BitVec 8 := 0
  km : BitVec 8 := 0
  lm1 : BitVec 4 := 0
  sc : BitVec 3 := 0
  now : BitVec 32 := 0
  r1 : BitVec 16 := 0
  r2 : BitVec 16 := 0
  deriving DecidableEq, Repr

/-- Reading the fields out of a command word (R91, R94). -/
def fieldsOf (w : CmdWord) : CmdFields where
  op := w.extractLsb' 0 4
  sel := w.extractLsb' 4 2
  ch := w.extractLsb' 6 1
  clk := w.extractLsb' 8 8
  mod := w.extractLsb' 16 8
  kx := w.extractLsb' 24 8
  ky := w.extractLsb' 32 8
  km := w.extractLsb' 40 8
  lm1 := w.extractLsb' 48 4
  sc := w.extractLsb' 52 3
  now := w.extractLsb' 64 32
  r1 := w.extractLsb' 96 16
  r2 := w.extractLsb' 112 16

/-- The channel index `c = ch` (R2, R94). -/
def channelOf (ch : BitVec 1) : Channel := if ch = 0 then .ch1 else .ch2

/-- The command that a word's fields give (R92, R93): the opcode alone selects it. -/
def commandOf (f : CmdFields) : Instr :=
  match f.op.toNat with
  | 0 => .nop
  | 1 => .tick f.sel f.clk f.mod f.kx f.ky f.km f.now f.r1 f.r2
  | 2 => .resolve f.sel f.mod f.kx f.ky f.km f.now
  | 3 => .clkrec f.clk
  | 4 => .taptmp f.sel f.now
  | 5 => .srstep (channelOf f.ch) f.km f.lm1 f.r1
  | 6 => .divtick
  | 7 => .quant f.clk f.sc
  | 8 => .emit (channelOf f.ch) f.now
  | 9 => .ptrig (channelOf f.ch) f.now
  | 10 => .display f.now
  | 11 => .reservedB
  | 12 => .reservedC
  | 13 => .reservedD
  | 14 => .reservedE
  | _ => .reservedF

/-- The decoder of the command port. -/
def decodeCommand (w : CmdWord) : Instr := commandOf (fieldsOf w)

/-- The decoder of the read port (R40, R98): the address selects the register, the time goes with it. -/
def decodeRead (a : ReadAddr) (t : Time) : Instr :=
  match a.toNat with
  | 0 => .rdResult t
  | 1 => .rdStatus t
  | 2 => .rdClklast t
  | 3 => .rdReg1 t
  | 4 => .rdReg2 t
  | 5 => .rdPitch1 t
  | 6 => .rdPitch2 t
  | 7 => .rdMod1 t
  | 8 => .rdMod2 t
  | 9 => .rdPulse1 t
  | 10 => .rdPulse2 t
  | 11 => .rdPtime1 t
  | 12 => .rdPtime2 t
  | 13 => .rdLeda t
  | 14 => .rdLedb t
  | 15 => .rdTapint t
  | 16 => .rdTaplast t
  | 17 => .rdTriglast t
  | 18 => .rdLentime t
  | 19 => .rdReserved13 t
  | 20 => .rdReserved14 t
  | 21 => .rdReserved15 t
  | 22 => .rdReserved16 t
  | 23 => .rdReserved17 t
  | 24 => .rdReserved18 t
  | 25 => .rdReserved19 t
  | 26 => .rdReserved1A t
  | 27 => .rdReserved1B t
  | 28 => .rdReserved1C t
  | 29 => .rdReserved1D t
  | 30 => .rdReserved1E t
  | _ => .rdReserved1F t

/-- The decoder: every access is an instruction (R95, R290). -/
def decode : Access → Instr
  | .command w => decodeCommand w
  | .read a t => decodeRead a t

/-! ### Carriage over bytes (R66) -/

/-- The bytes of an unsigned number, the least significant first (R66): byte `i` holds bits `[8i+7 : 8i]`. -/
def bytesOf : (count : Nat) → (v : Nat) → List Byte
  | 0, _ => []
  | n + 1, v => BitVec.ofNat 8 v :: bytesOf n (v / 256)

/-- The number carried by bytes, the least significant first (R66). -/
def numberOf : List Byte → Nat
  | [] => 0
  | b :: bs => b.toNat + 256 * numberOf bs

/-- Why a byte string is no command word (R90: exactly 128 bits). -/
inductive DecodeError where
  | tooShort
  | tooLong
  deriving DecidableEq, Repr

/-- The sixteen bytes of a command word. -/
def bytesOfCommand (w : CmdWord) : List Byte := bytesOf 16 w.toNat

/-- The four bytes of a word of the read port (R66). -/
def bytesOfReadWord (w : ReadWord) : List Byte := bytesOf 4 w.toNat

/-- The decoder on bytes: sixteen bytes are a command word, any other count is rejected by name. -/
def decodeBytes (bs : List Byte) : Except DecodeError Instr :=
  if bs.length < 16 then .error .tooShort
  else if bs.length > 16 then .error .tooLong
  else .ok (decodeCommand (BitVec.ofNat 128 (numberOf bs)))

/-- The access that a row of spec/opcode_table.json with the bits `w` stands for: the five bits of an `RD` row are
a read address (R98), presented here with time 0; any other width is a command word whose higher bits are 0. -/
def tableAccess (nbits w : Nat) : Access :=
  if nbits = 5 then .read (BitVec.ofNat 5 w) 0 else .command (BitVec.ofNat 128 (w % 2 ^ nbits))

/-- The instruction the decoder reads from a row's bits. A command goes through its sixteen bytes. -/
def decodeTableWord (nbits w : Nat) : Option Instr :=
  match tableAccess nbits w with
  | .command c => (decodeBytes (bytesOfCommand c)).toOption
  | .read a t => some (decodeRead a t)

/-! ### Encoding -/

/-- The word with these fields and with its reserved bits 0 (R91, R94). -/
def CmdFields.word (f : CmdFields) : CmdWord :=
  f.r2 ++ f.r1 ++ f.now ++ 0#9 ++ f.sc ++ f.lm1 ++ f.km ++ f.ky ++ f.kx ++ f.mod ++ f.clk ++ 0#1 ++ f.ch ++ f.sel
    ++ f.op

/-- The bit of the `ch` field (R2, R91). -/
def channelBit : Channel → BitVec 1
  | .ch1 => 0
  | .ch2 => 1

/-- A command word from its fields. -/
def commandAccess (f : CmdFields) : Access := .command f.word

/-- The access that asks for an instruction: its opcode, the fields it reads, and 0 everywhere else (R92 to R94);
for a read, its address and its time (R40, R98). -/
def encode : Instr → Access
  | .nop => commandAccess { op := 0 }
  | .tick sel clk mod kx ky km now r1 r2 =>
    commandAccess { op := 1, sel := sel, clk := clk, mod := mod, kx := kx, ky := ky, km := km, now := now, r1 := r1, r2 := r2 }
  | .resolve sel mod kx ky km now =>
    commandAccess { op := 2, sel := sel, mod := mod, kx := kx, ky := ky, km := km, now := now }
  | .clkrec clk => commandAccess { op := 3, clk := clk }
  | .taptmp sel now => commandAccess { op := 4, sel := sel, now := now }
  | .srstep ch km lm1 r1 => commandAccess { op := 5, ch := channelBit ch, km := km, lm1 := lm1, r1 := r1 }
  | .divtick => commandAccess { op := 6 }
  | .quant clk sc => commandAccess { op := 7, clk := clk, sc := sc }
  | .emit ch now => commandAccess { op := 8, ch := channelBit ch, now := now }
  | .ptrig ch now => commandAccess { op := 9, ch := channelBit ch, now := now }
  | .display now => commandAccess { op := 10, now := now }
  | .reservedB => commandAccess { op := 11 }
  | .reservedC => commandAccess { op := 12 }
  | .reservedD => commandAccess { op := 13 }
  | .reservedE => commandAccess { op := 14 }
  | .reservedF => commandAccess { op := 15 }
  | .rdResult t => .read 0 t
  | .rdStatus t => .read 1 t
  | .rdClklast t => .read 2 t
  | .rdReg1 t => .read 3 t
  | .rdReg2 t => .read 4 t
  | .rdPitch1 t => .read 5 t
  | .rdPitch2 t => .read 6 t
  | .rdMod1 t => .read 7 t
  | .rdMod2 t => .read 8 t
  | .rdPulse1 t => .read 9 t
  | .rdPulse2 t => .read 10 t
  | .rdPtime1 t => .read 11 t
  | .rdPtime2 t => .read 12 t
  | .rdLeda t => .read 13 t
  | .rdLedb t => .read 14 t
  | .rdTapint t => .read 15 t
  | .rdTaplast t => .read 16 t
  | .rdTriglast t => .read 17 t
  | .rdLentime t => .read 18 t
  | .rdReserved13 t => .read 19 t
  | .rdReserved14 t => .read 20 t
  | .rdReserved15 t => .read 21 t
  | .rdReserved16 t => .read 22 t
  | .rdReserved17 t => .read 23 t
  | .rdReserved18 t => .read 24 t
  | .rdReserved19 t => .read 25 t
  | .rdReserved1A t => .read 26 t
  | .rdReserved1B t => .read 27 t
  | .rdReserved1C t => .read 28 t
  | .rdReserved1D t => .read 29 t
  | .rdReserved1E t => .read 30 t
  | .rdReserved1F t => .read 31 t

/-! ### The assembler (R100) -/

/-- The opcode of a mnemonic (R92). -/
def Mnemonic.opcode : Mnemonic → Nat
  | .NOP => 0
  | .TICK => 1
  | .RESOLVE => 2
  | .CLKREC => 3
  | .TAPTMP => 4
  | .SRSTEP => 5
  | .DIVTICK => 6
  | .QUANT => 7
  | .EMIT => 8
  | .PTRIG => 9
  | .DISPLAY => 10

/-- The fields the command of a mnemonic reads (the table of R93). -/
def Mnemonic.reads : Mnemonic → List Field
  | .NOP => []
  | .TICK => [.sel, .clk, .mod, .kx, .ky, .km, .now, .r1, .r2]
  | .RESOLVE => [.sel, .mod, .kx, .ky, .km, .now]
  | .CLKREC => [.clk]
  | .TAPTMP => [.sel, .now]
  | .SRSTEP => [.ch, .km, .lm1, .r1]
  | .DIVTICK => []
  | .QUANT => [.clk, .sc]
  | .EMIT => [.ch, .now]
  | .PTRIG => [.ch, .now]
  | .DISPLAY => [.now]

/-- The number the assembler writes into a field: "an omitted field is 0" (R100), and where a command does not read
the field, "the assembler writes 0 there" (R94), also when the line names it. -/
def asmValue (m : Mnemonic) (fields : List (Field × Nat)) (f : Field) : Nat :=
  if f ∈ m.reads then (fields.lookup f).getD 0 else 0

/-- The access an assembler line stands for (R94, R100). -/
def assemble : AsmLine → Access
  | .cmd m fs =>
    commandAccess
      { op := BitVec.ofNat 4 m.opcode
        sel := BitVec.ofNat 2 (asmValue m fs .sel)
        ch := BitVec.ofNat 1 (asmValue m fs .ch)
        clk := BitVec.ofNat 8 (asmValue m fs .clk)
        mod := BitVec.ofNat 8 (asmValue m fs .mod)
        kx := BitVec.ofNat 8 (asmValue m fs .kx)
        ky := BitVec.ofNat 8 (asmValue m fs .ky)
        km := BitVec.ofNat 8 (asmValue m fs .km)
        lm1 := BitVec.ofNat 4 (asmValue m fs .lm1)
        sc := BitVec.ofNat 3 (asmValue m fs .sc)
        now := BitVec.ofNat 32 (asmValue m fs .now)
        r1 := BitVec.ofNat 16 (asmValue m fs .r1)
        r2 := BitVec.ofNat 16 (asmValue m fs .r2) }
  | .rd a t => .read a (BitVec.ofNat 32 t)

end Sys2Proof
end

