-- ==== Sys2Proof/Machine/Reset.lean ====
section
/-! DEFINITION. The reset event (R310) and the reset values (R50). -/

namespace Sys2Proof.Machine

/-- The elements R50 leaves "unspecified" after reset. R50: "the model must not give the element a value: a read
of it before it is first written returns any value". A reset event carries these values as data chosen outside
PNSC, so whatever is said of every reset event is said of all of them (notes/assumptions/4). -/
structure Unspecified where
  clkLast : BitVec 8
  ptime1 : Time
  ptime2 : Time
  S1 : BitVec 16
  S2 : BitVec 16
  pc1 : BitVec 4
  pc2 : BitVec 4
  oct1 : BitVec 4
  oct2 : BitVec 4
  M1 : BitVec 16
  M2 : BitVec 16
  lenTime : Time
  deriving DecidableEq, Repr, Inhabited

/-- What a reset event carries (R310): the two seeds and the time, and the values of the unspecified elements. -/
structure ResetInputs where
  seed1 : BitVec 16
  seed2 : BitVec 16
  nowRst : Time
  unspecified : Unspecified
  deriving DecidableEq, Repr, Inhabited

/-- Channel 1 or 2 right after reset (R50, R310). -/
def chanReset (seed : BitVec 16) (ptime : Time) (S : BitVec 16) (pc oct : BitVec 4) (M : BitVec 16) : ChanState where
  R := seed
  act := false
  ptime := ptime
  S := S
  pc := pc
  oct := oct
  M := M

/-- The state of PNSC right after a reset event (R50, R310): a function of the event and of the configuration
alone, so nothing survives it (R299, R312). -/
def pnscReset (c : Config) (r : ResetInputs) : Pnsc where
  ch1 := chanReset r.seed1 r.unspecified.ptime1 r.unspecified.S1 r.unspecified.pc1 r.unspecified.oct1 r.unspecified.M1
  ch2 := chanReset r.seed2 r.unspecified.ptime2 r.unspecified.S2 r.unspecified.pc2 r.unspecified.oct2 r.unspecified.M2
  clkState := .unplugged
  clkLast := r.unspecified.clkLast
  lastTap := r.nowRst
  lastTrig := r.nowRst
  interval := BitVec.ofNat 11 c.tapIntervalReset
  prevSel := BitVec.ofNat 2 c.tapPos
  len := BitVec.ofNat 5 lenDefault
  lenIdx := 7
  div := BitVec.ofNat 5 divDefault
  scaleIdx := 0
  divCnt := 0
  led := { led0 := 0, led1 := 0, led2 := 0, led3 := 0, led4 := 0, led5 := 0 }
  result := 0
  disp := false
  lenTime := r.unspecified.lenTime

/-- The inputs of the one reset that `State.reset` stands for: both seeds 0, time 0, every unspecified element 0
(DESIGN CHOICE, notes/assumptions/1 and 2). -/
def resetInputsZero : ResetInputs where
  seed1 := 0
  seed2 := 0
  nowRst := 0
  unspecified :=
    { clkLast := 0, ptime1 := 0, ptime2 := 0, S1 := 0, S2 := 0, pc1 := 0, pc2 := 0, oct1 := 0, oct2 := 0, M1 := 0,
      M2 := 0, lenTime := 0 }

end Sys2Proof.Machine
end

