-- ==== Sys2Proof/Machine/State.lean ====
section
/-! DEFINITION. The state of the machine: the registers of PNSC (`Pnsc`, exactly R20), and beside them three
fields of the MODEL's own, which are no registers of PNSC: the configuration, what the host has yet to present,
and the word the read port last returned. -/

namespace Sys2Proof.Machine

/-- Something the outside world does to PNSC, at one instant between two commands (R61, R62, R310, R312): a use of
one of the ports, or a reset event. -/
inductive Input where
  | access (x : Access)
  | reset (r : ResetInputs)
  deriving DecidableEq, Repr

/-- The state. Plain data. -/
structure State where
  /-- Every register of PNSC (R20). -/
  pnsc : Pnsc
  /-- The configuration of R9, fixed for the machine: no step changes it. Not a register of PNSC (R36). -/
  cfg : Config
  /-- What the host and the signal stage present next, in order (R6, R71, R320). Not a register of PNSC: the order
  is host state (R24). -/
  inputs : List Input
  /-- The word the read port returned at the latest read. Not a register of PNSC: it is where a read's answer
  is seen (R40). -/
  rdData : ReadWord
  deriving DecidableEq, Repr

/-- The reasons a machine stops with a fault: there are none. R290: "PNSC raises no synchronous exception." The
type has no constructor, so that no step of this model can fault (safe and unsafe differences cannot arise here). -/
inductive Fault where
  deriving DecidableEq, Repr

/-- The reasons a step has no meaning. -/
inductive Refusal where
  /-- Raised by an arm of `exec` for an instruction without a meaning; no arm raises it, since every instruction
  has one. Raising it would be safe: a stop where the hardware goes on. -/
  | notModelled (mnemonic : String)
  deriving DecidableEq, Repr

/-- The machine right after reset, under the reference parameters P0, with nothing presented yet (R50, R310,
R313: "After reset PNSC is idle and waits for the first command"). The seeds, the time of reset, the unspecified
elements, the configuration and the last answer of the read port are DESIGN CHOICES: notes/assumptions/1 to 5. -/
def State.reset : State where
  pnsc := pnscReset Config.p0 resetInputsZero
  cfg := Config.p0
  inputs := []
  rdData := 0

end Sys2Proof.Machine
end

