-- ==== Sys2Proof/Machine/Operands.lean ====
section
/-! DEFINITION. The operands: what each field of a command denotes before an operation uses it (R94, R191 to R197,
R241 to R246), and elapsed time (R12). -/

namespace Sys2Proof.Machine

/-- `tdiff(a, b)`: the time elapsed from `b` to `a`, modulo 2^32 (R12, R151). -/
def tdiff (a b : Time) : Time := a - b

/-- `clamp(v, lo, hi)` (R12). -/
def clamp (v lo hi : Int) : Int := if v < lo then lo else if v > hi then hi else v

/-- `SRSTEP`'s length `lm1 + 1`, in 1..16 (R94, R160). -/
def stepLength (lm1 : BitVec 4) : Nat := lm1.toNat + 1

/-- The two-bit code of `clk_state` (R26). -/
def clkCode : ClkState → BitVec 2
  | .unplugged => 0
  | .low => 1
  | .high => 2

/-! ### The discrete selections -/

/-- The length index `kx >> 5` (R241). -/
def lengthIndex (kx : Byte) : Nat := kx.toNat >>> 5

/-- `LENGTHS[li]`, 16 outside the table (R242). -/
def lengthOf (li : Nat) : Nat := lengths.getD li lenDefault

/-- The stored length index: `li`, 7 outside the table (R250). -/
def storedLengthIndex (li : Nat) : Nat := if li ≤ 7 then li else 7

/-- The combined divider input, clamped to 0..255 (R243). -/
def combined (c : Config) (ky mod : Byte) : Int := clamp ((ky.toNat : Int) + mod.toNat - c.modBias) 0 255

/-- The divider index (R243). -/
def divisorIndex (c : Config) (ky mod : Byte) : Nat := (combined c ky mod).toNat >>> 5

/-- `DIVISORS[di]`, 1 outside the table (R244). -/
def divisorOf (di : Nat) : Nat := divisors.getD di divDefault

/-- What `SCALE_OF_SEL` holds for a selector; `none` is R246's "missing", which selector 3 always is (R96). -/
def scaleEntry (c : Config) (sel : BitVec 2) : Option Int :=
  if sel.toNat ≤ 2 then c.scaleOfSel[sel.toNat]? else none

/-- The resolved scale index: chromatic (0) when the entry is missing or outside 0..6 (R246). -/
def scaleIndex (c : Config) (sel : BitVec 2) : Nat :=
  match scaleEntry c sel with
  | some si => if 0 ≤ si ∧ si ≤ 6 then si.toNat else 0
  | none => 0

/-- The probability code is the knob's code (R245). -/
def probabilityOf (km : Byte) : Byte := km

/-! ### The quantizer's values -/

/-- `scale(si)`: entry `si` of `SCALE_ROM`, chromatic (entry 0) outside 0..6 (R193, R97). -/
def scaleOf (c : Config) (si : Int) : List Nat :=
  if 0 ≤ si ∧ si ≤ 6 then c.scaleRom.getD si.toNat [] else c.scaleRom.getD 0 []

/-- The note index (R191). -/
def noteIndex (c : Config) (v : Byte) : Nat := (v.toNat * c.noteSpan) >>> 8

/-- The modulation value `2v - 255` (R197). -/
def modval (v : Byte) : Int := 2 * (v.toNat : Int) - 255

/-- A channel's low byte (R22, R65). -/
def lowByte (R : BitVec 16) : Byte := R.extractLsb' 0 8

end Sys2Proof.Machine
end

