-- ==== Sys2Proof/Machine/Flags.lean ====
section
/-! DEFINITION. The `RESULT` register: its eight flags (R34) and the payload of each command (R99). -/

namespace Sys2Proof.Machine

/-- `RESULT[7:0]` (R34): "a command that does not define a flag writes it as 0". -/
structure ResultFlags where
  trig : Bool := false
  plugged : Bool := false
  adv1 : Bool := false
  adv2 : Bool := false
  tapedge : Bool := false
  tapacc : Bool := false
  lenchg : Bool := false
  dispwin : Bool := false
  deriving DecidableEq, Repr

/-- The flags as bits 7 to 0 (R34). -/
def flagByte (f : ResultFlags) : BitVec 8 :=
  BitVec.ofBool f.dispwin ++ BitVec.ofBool f.lenchg ++ BitVec.ofBool f.tapacc ++ BitVec.ofBool f.tapedge
    ++ BitVec.ofBool f.adv2 ++ BitVec.ofBool f.adv1 ++ BitVec.ofBool f.plugged ++ BitVec.ofBool f.trig

/-- All 32 bits of `RESULT`: the payload above the flags (R34). -/
def resultWord (f : ResultFlags) (payload : BitVec 24) : BitVec 32 := payload ++ flagByte f

/-- The payload of `TICK` and `RESOLVE` (R248): `len` [12:8], `div` [17:13], `scale_idx` [20:18], `p` [28:21]. -/
def selectionPayload (len div : BitVec 5) (scaleIdx : BitVec 3) (prob : Byte) : BitVec 24 :=
  0#3 ++ prob ++ scaleIdx ++ div ++ len

/-- The payload of `CLKREC` (R128): the new `clk_state` in [9:8]. -/
def clockPayload (st : ClkState) : BitVec 24 := 0#22 ++ clkCode st

/-- The payload of `TAPTMP` (R147): the new `interval` in [18:8]. -/
def intervalPayload (interval : BitVec 11) : BitVec 24 := 0#13 ++ interval

/-- The payload of `SRSTEP` (R165): the new register [23:8], the fed-back bit 24, flip 25, the new bit 26. -/
def stepPayload (R' : BitVec 16) (b flip nb : Bool) : BitVec 24 :=
  0#5 ++ BitVec.ofBool nb ++ BitVec.ofBool flip ++ BitVec.ofBool b ++ R'

/-- The payload of `DIVTICK` (R182): the new `div_cnt` in [11:8]. -/
def dividerPayload (divCnt : BitVec 4) : BitVec 24 := 0#20 ++ divCnt

/-- The payload of `QUANT` and `EMIT` (R199, R200): pitch class [11:8], octave [15:12], `S` [31:16]. -/
def notePayload (pcl oct : BitVec 4) (S : BitVec 16) : BitVec 24 := S ++ oct ++ pcl

end Sys2Proof.Machine
end

