-- ==== Sys2Proof/Machine/Ops.lean ====
section
/-! DEFINITION. The operations of PNSC, each once: the accessors and setters of its registers, and the operations
that the unit commands and `TICK` share (R127, R148, R161, R181, R196, R200, R221 to R224, R247, R250, R263,
R271). An operation is a function of the configuration, its operands and the registers; it answers what it reports
and the new registers. PNSC has no exception, so there is none to take and none to return from (R290, R292). -/

namespace Sys2Proof.Machine

/-! ### Accessors and setters -/

/-- What channel `c` owns. -/
def Pnsc.chan (p : Pnsc) : Channel → ChanState
  | .ch1 => p.ch1
  | .ch2 => p.ch2

/-- Replacing what channel `c` owns. -/
def Pnsc.setChan (p : Pnsc) (c : Channel) (x : ChanState) : Pnsc :=
  match c with
  | .ch1 => { p with ch1 := x }
  | .ch2 => { p with ch2 := x }

/-- Writing `R[c]`. -/
def Pnsc.setR (p : Pnsc) (c : Channel) (R : BitVec 16) : Pnsc := p.setChan c { p.chan c with R := R }

/-- Writing `clk_state` and `clk_last` (R126). -/
def Pnsc.setClock (p : Pnsc) (st : ClkState) (v : Byte) : Pnsc := { p with clkState := st, clkLast := v }

/-- Writing the tap-tempo state, but for `prev_sel`. -/
def Pnsc.setTap (p : Pnsc) (interval : BitVec 11) (lastTap lastTrig : Time) : Pnsc :=
  { p with interval := interval, lastTap := lastTap, lastTrig := lastTrig }

/-- Writing `prev_sel`. -/
def Pnsc.setPrevSel (p : Pnsc) (sel : BitVec 2) : Pnsc := { p with prevSel := sel }

/-- Writing the selections (R247). -/
def Pnsc.setSelection (p : Pnsc) (len : BitVec 5) (lenIdx : BitVec 3) (div : BitVec 5) (scaleIdx : BitVec 3) : Pnsc :=
  { p with len := len, lenIdx := lenIdx, div := div, scaleIdx := scaleIdx }

/-- Opening the length-changed window (R247). -/
def Pnsc.openWindow (p : Pnsc) (now : Time) : Pnsc := { p with lenTime := now, disp := true }

/-- Writing `div_cnt`. -/
def Pnsc.setDivCnt (p : Pnsc) (n : BitVec 4) : Pnsc := { p with divCnt := n }

/-- Writing `disp` and the LEDs (R271). -/
def Pnsc.setDisplay (p : Pnsc) (disp : Bool) (led : Leds) : Pnsc := { p with disp := disp, led := led }

/-- Writing `RESULT`. -/
def Pnsc.setResult (p : Pnsc) (r : BitVec 32) : Pnsc := { p with result := r }

/-- The outcome of a command: its registers take effect together (R13, R68). -/
def finish (s : State) (p : Pnsc) : Host.Outcome State Fault Refusal := .next { s with pnsc := p }

/-- The outcome of a read: its word is answered, no register of PNSC changes (R40, R68). -/
def answerRead (s : State) (w : ReadWord) : Host.Outcome State Fault Refusal := .next { s with rdData := w }

/-! ### Clock recovery -/

/-- `plugged(v)` (R121). -/
def plugged (c : Config) (v : Byte) : Bool := decide (v.toNat > c.idleHi) || decide (v.toNat < c.idleLo)

/-- What `clkrec` reports (R127). -/
structure ClockReport where
  trig : Bool
  plug : Bool
  deriving DecidableEq, Repr

/-- The transition of `clk_state` and whether it fires (R122 to R125). -/
def clockStep (c : Config) (st : ClkState) (v : Byte) : ClkState × Bool :=
  if !plugged c v then (.unplugged, false)
  else if st ≠ .high ∧ v.toNat > c.thresholdHigh then (.high, true)
  else if st = .high ∧ v.toNat < c.thresholdLow then (.low, false)
  else if st = .unplugged then (.low, false)
  else (st, false)

/-- `clkrec(v)` (R127). -/
def clkrec (c : Config) (v : Byte) (p : Pnsc) : ClockReport × Pnsc :=
  ({ trig := (clockStep c p.clkState v).2, plug := plugged c v }, p.setClock (clockStep c p.clkState v).1 v)

/-! ### Tap tempo -/

/-- What `tap` reports (R148). -/
structure TapReport where
  trig : Bool
  edge : Bool
  acc : Bool
  deriving DecidableEq, Repr

/-- A tap edge (R141). -/
def tapEdge (c : Config) (prevSel sel : BitVec 2) : Bool :=
  decide (prevSel.toNat ≠ c.tapPos) && decide (sel.toNat = c.tapPos)

/-- A tap gap is accepted when it lies in `T_MIN..T_MAX`, both ends included (R143). -/
def gapAccepted (diff : Time) : Bool := decide (tMin ≤ diff.toNat) && decide (diff.toNat ≤ tMax)

/-- `tap(sel, now)` (R148). The free-running test uses the new interval (R145). -/
def tap (c : Config) (sel : BitVec 2) (now : Time) (p : Pnsc) : TapReport × Pnsc :=
  let edge := tapEdge c p.prevSel sel
  let diff := tdiff now p.lastTap
  let acc := edge && gapAccepted diff
  let interval := if acc then BitVec.ofNat 11 diff.toNat else p.interval
  let free := decide ((tdiff now p.lastTrig).toNat > interval.toNat)
  ({ trig := acc || free, edge := edge, acc := acc },
    p.setTap interval (if edge then now else p.lastTap) (if free then now else p.lastTrig))

/-! ### The shift register -/

/-- What `step` answers (R161): the new register, the fed-back bit, flip, the new bit. -/
structure ShiftReport where
  R : BitVec 16
  b : Bool
  flip : Bool
  nb : Bool
  deriving DecidableEq, Repr

/-- `r / 65536 >= p / 255`, exactly (R162). -/
def flips (prob : Byte) (r : Draw) : Bool := decide (r.toNat * 255 ≥ prob.toNat * 65536)

/-- `step(R, L, p, r)` (R161). -/
def shiftStep (R : BitVec 16) (L : Nat) (prob : Byte) (r : Draw) : ShiftReport :=
  let b := R.getLsbD (L - 1)
  let nb := if flips prob r then !b else b
  { R := (R <<< 1) ||| (BitVec.ofBool nb).setWidth 16, b := b, flip := flips prob r, nb := nb }

/-! ### The divider -/

/-- `divtick()` (R181): whether channel 2 should step, and the new count. -/
def divtick (p : Pnsc) : Bool × Pnsc :=
  if p.divCnt.toNat + 1 ≥ p.div.toNat then (true, p.setDivCnt 0)
  else (false, p.setDivCnt (BitVec.ofNat 4 (p.divCnt.toNat + 1)))

/-! ### The quantizer -/

/-- What `quant` answers (R196), before it is narrowed to its fields. -/
structure Note where
  pcl : Nat
  oct : Nat
  S : Int
  deriving DecidableEq, Repr

/-- `quant(v, si)` (R196). -/
def quant (c : Config) (v : Byte) (si : Int) : Note :=
  let sc := scaleOf c si
  let n := noteIndex c v
  let oct := n / sc.length
  let pcl := sc.getD (n % sc.length) 0
  { pcl := pcl, oct := oct, S := (c.baseNote : Int) + 12 * oct + pcl - c.refNote }

/-- The pitch class as its four-bit field (R32). -/
def Note.pclBits (n : Note) : BitVec 4 := BitVec.ofNat 4 n.pcl

/-- The octave as its four-bit field (R32). -/
def Note.octBits (n : Note) : BitVec 4 := BitVec.ofNat 4 n.oct

/-- `S & 0xFFFF`: 16-bit two's complement (R12, R44). -/
def Note.SBits (n : Note) : BitVec 16 := BitVec.ofInt 16 n.S

/-! ### The pulse generator -/

/-- `ptrig(c, now)` (R221). -/
def ptrig (c : Channel) (now : Time) (p : Pnsc) : Pnsc := p.setChan c { p.chan c with act := true, ptime := now }

/-- `n` further time units of decay from the level `v` (R223). The cut-off is R223's own: "once a value is 0 all
later values are 0". -/
def decay (k : Nat) : (n : Nat) → (v : Nat) → Nat
  | 0, v => v
  | n + 1, v => if v = 0 then 0 else decay k n ((v * k) >>> 16)

/-- `env(d)` (R223): full through the hold, then one multiplication for each time unit. -/
def env (c : Config) (d : Nat) : Nat := if d ≤ c.pulseHold then pulseFull else decay c.pulseK (d - c.pulseHold) pulseFull

/-- `penv(c, t)` (R224). -/
def penv (c : Config) (p : Pnsc) (ch : Channel) (t : Time) : Nat :=
  if (p.chan ch).act then env c (tdiff t (p.chan ch).ptime).toNat else 0

/-! ### Emitting and advancing -/

/-- `emit(c, now)` (R200): the note of the register's low byte, and the channel's outputs and pulse. -/
def emit (c : Config) (ch : Channel) (now : Time) (p : Pnsc) : Note × Pnsc :=
  let v := lowByte (p.chan ch).R
  let note := quant c v p.scaleIdx.toNat
  let outputs :=
    { p.chan ch with S := note.SBits, pc := note.pclBits, oct := note.octBits, M := BitVec.ofInt 16 (modval v) }
  (note, ptrig ch now (p.setChan ch outputs))

/-- `advance(c, p, r, now)` (R263): step with the stored length, then emit. -/
def advance (c : Config) (ch : Channel) (prob : Byte) (r : Draw) (now : Time) (p : Pnsc) : Pnsc :=
  (emit c ch now (p.setR ch (shiftStep (p.chan ch).R p.len.toNat prob r).R)).2

/-! ### Resolving the selections -/

/-- `resolve(...)` (R247, R250): whether the length changed, and the new registers. The probability it also
answers is `probabilityOf km` (R245). -/
def resolve (c : Config) (sel : BitVec 2) (mod kx ky : Byte) (now : Time) (p : Pnsc) : Bool × Pnsc :=
  let li := lengthIndex kx
  let L := BitVec.ofNat 5 (lengthOf li)
  let D := BitVec.ofNat 5 (divisorOf (divisorIndex c ky mod))
  let lenchg := decide (L ≠ p.len)
  let p' := if lenchg then p.openWindow now else p
  (lenchg, p'.setSelection L (BitVec.ofNat 3 (storedLengthIndex li)) D (BitVec.ofNat 3 (scaleIndex c sel)))

/-! ### The display -/

/-- Full brightness for a set bit, off for a clear one (R274, R275). -/
def bitCode (b : Bool) : BitVec 8 := if b then 255 else 0

/-- The length-changed pattern: bit `j` of `LENPAT[len_idx]` drives `LED[j]` (R274). -/
def patternLeds (c : Config) (lenIdx : BitVec 3) : Leds :=
  let pat := c.lenPat.getD lenIdx.toNat 0
  { led0 := bitCode (pat.getLsbD 0), led1 := bitCode (pat.getLsbD 1), led2 := bitCode (pat.getLsbD 2),
    led3 := bitCode (pat.getLsbD 3), led4 := bitCode (pat.getLsbD 4), led5 := bitCode (pat.getLsbD 5) }

/-- The reference `STEADY` (R275): for each channel its pulse level and the two newest bits of its register. -/
def steadyReference (c : Config) (p : Pnsc) (now : Time) : Leds where
  led0 := BitVec.ofNat 8 (penv c p .ch1 now >>> 8)
  led1 := bitCode (p.ch1.R.getLsbD 0)
  led2 := bitCode (p.ch1.R.getLsbD 1)
  led3 := BitVec.ofNat 8 (penv c p .ch2 now >>> 8)
  led4 := bitCode (p.ch2.R.getLsbD 0)
  led5 := bitCode (p.ch2.R.getLsbD 1)

/-- `STEADY(state, now)` (R275), the configuration's own. -/
def steadyLeds (c : Config) (p : Pnsc) (now : Time) : Leds :=
  match c.steady with
  | .reference => steadyReference c p now
  | .other id => Config.steadyOther id p now

/-- The length-changed window is open at `now` (R272). -/
def windowOpen (p : Pnsc) (now : Time) : Bool := p.disp && decide ((tdiff now p.lenTime).toNat < tDisp)

/-- `display(now)` (R271): `disp` is cleared once the window is found expired (R273), before `STEADY` looks at the
state. -/
def display (c : Config) (now : Time) (p : Pnsc) : Bool × Pnsc :=
  let win := windowOpen p now
  let led := if win then patternLeds c p.lenIdx else steadyLeds c { p with disp := win } now
  (win, p.setDisplay win led)

end Sys2Proof.Machine
end

