-- ==== Sys2Proof/Machine/ClockRecovery.lean ====
section
/-! DEFINITION. `CLKREC` (40_clock_recovery.md). -/

namespace Sys2Proof.Machine

/-- `CLKREC` (R120, R128). -/
def execClkrec (clk : Byte) (s : State) : Host.Outcome State Fault Refusal :=
  let (rep, p) := clkrec s.cfg clk s.pnsc
  finish s (p.setResult (resultWord { trig := rep.trig, plugged := rep.plug } (clockPayload p.clkState)))

end Sys2Proof.Machine
end

