-- ==== Sys2Proof/Machine/Divider.lean ====
section
/-! DEFINITION. `DIVTICK` (43_divider.md). -/

namespace Sys2Proof.Machine

/-- `DIVTICK` (R180, R182). It reports whether channel 2 should step; it does not step it. -/
def execDivtick (s : State) : Host.Outcome State Fault Refusal :=
  let (adv, p) := divtick s.pnsc
  finish s (p.setResult (resultWord { adv2 := adv } (dividerPayload p.divCnt)))

end Sys2Proof.Machine
end

