-- ==== Sys2Proof/Machine/Pulse.lean ====
section
/-! DEFINITION. `PTRIG` (45_pulse.md). -/

namespace Sys2Proof.Machine

/-- `PTRIG` (R220). -/
def execPtrig (ch : Channel) (now : Time) (s : State) : Host.Outcome State Fault Refusal :=
  finish s ((ptrig ch now s.pnsc).setResult 0)

end Sys2Proof.Machine
end

