-- ==== Sys2Proof/Machine/Quantizer.lean ====
section
/-! DEFINITION. `QUANT` and `EMIT` (44_quantizer.md). -/

namespace Sys2Proof.Machine

/-- `QUANT` (R199): no state written but `RESULT`. -/
def execQuant (clk : Byte) (sc : BitVec 3) (s : State) : Host.Outcome State Fault Refusal :=
  let note := quant s.cfg clk sc.toNat
  finish s (s.pnsc.setResult (resultWord {} (notePayload note.pclBits note.octBits note.SBits)))

/-- `EMIT` (R200): the stored scale index, the register as it stands. -/
def execEmit (ch : Channel) (now : Time) (s : State) : Host.Outcome State Fault Refusal :=
  let (note, p) := emit s.cfg ch now s.pnsc
  finish s (p.setResult (resultWord {} (notePayload note.pclBits note.octBits note.SBits)))

end Sys2Proof.Machine
end

