-- ==== Sys2Proof/Machine/ReadPort.lean ====
section
/-! DEFINITION. The read port (10_state.md, section 7): the word at each address, and one meaning per address. A
read answers its word and changes no register (R40, R68); only the two `PULSE` words depend on its time (R46). -/

namespace Sys2Proof.Machine

/-- `STATUS` (R41). -/
def statusWord (p : Pnsc) : ReadWord :=
  0#4 ++ p.lenIdx ++ p.scaleIdx ++ p.divCnt ++ p.div ++ p.len ++ 0#1 ++ p.prevSel ++ BitVec.ofBool p.disp
    ++ BitVec.ofBool p.ch2.act ++ BitVec.ofBool p.ch1.act ++ clkCode p.clkState

/-- `CLKLAST` (R42). -/
def clklastWord (p : Pnsc) : ReadWord := 0#24 ++ p.clkLast

/-- `REG1`, `REG2` (R43). -/
def regWord (p : Pnsc) (c : Channel) : ReadWord := 0#16 ++ (p.chan c).R

/-- `PITCH1`, `PITCH2` (R44). -/
def pitchWord (p : Pnsc) (c : Channel) : ReadWord := 0#8 ++ (p.chan c).oct ++ (p.chan c).pc ++ (p.chan c).S

/-- `MOD1`, `MOD2` (R45). -/
def modWord (p : Pnsc) (c : Channel) : ReadWord := 0#16 ++ (p.chan c).M

/-- `PULSE1`, `PULSE2` at the time of the read (R46). -/
def pulseWord (cfg : Config) (p : Pnsc) (c : Channel) (t : Time) : ReadWord := 0#16 ++ BitVec.ofNat 16 (penv cfg p c t)

/-- `PTIME1`, `PTIME2` (R47). -/
def ptimeWord (p : Pnsc) (c : Channel) : ReadWord := (p.chan c).ptime

/-- `LEDA` (R48). -/
def ledaWord (p : Pnsc) : ReadWord := 0#8 ++ p.led.led2 ++ p.led.led1 ++ p.led.led0

/-- `LEDB` (R48). -/
def ledbWord (p : Pnsc) : ReadWord := 0#8 ++ p.led.led5 ++ p.led.led4 ++ p.led.led3

/-- `TAPINT` (R49). -/
def tapintWord (p : Pnsc) : ReadWord := 0#21 ++ p.interval

/-- `LENTIME` (R49): the stored stamp while the window flag is set; "unspecified while `disp = 0`", a free value. -/
def lentimeWord (p : Pnsc) : ReadWord := if p.disp then p.lenTime else Config.unspecifiedLenTime p

/-- A reserved address reads as 0 (R40). -/
def reservedReadWord : ReadWord := 0

/-- `RD RESULT` (R34). -/
def execRdResult (_t : Time) (s : State) : Host.Outcome State Fault Refusal := answerRead s s.pnsc.result

/-- `RD STATUS` (R41). -/
def execRdStatus (_t : Time) (s : State) : Host.Outcome State Fault Refusal := answerRead s (statusWord s.pnsc)

/-- `RD CLKLAST` (R42). -/
def execRdClklast (_t : Time) (s : State) : Host.Outcome State Fault Refusal := answerRead s (clklastWord s.pnsc)

/-- `RD REG1` (R43). -/
def execRdReg1 (_t : Time) (s : State) : Host.Outcome State Fault Refusal := answerRead s (regWord s.pnsc .ch1)

/-- `RD REG2` (R43). -/
def execRdReg2 (_t : Time) (s : State) : Host.Outcome State Fault Refusal := answerRead s (regWord s.pnsc .ch2)

/-- `RD PITCH1` (R44). -/
def execRdPitch1 (_t : Time) (s : State) : Host.Outcome State Fault Refusal := answerRead s (pitchWord s.pnsc .ch1)

/-- `RD PITCH2` (R44). -/
def execRdPitch2 (_t : Time) (s : State) : Host.Outcome State Fault Refusal := answerRead s (pitchWord s.pnsc .ch2)

/-- `RD MOD1` (R45). -/
def execRdMod1 (_t : Time) (s : State) : Host.Outcome State Fault Refusal := answerRead s (modWord s.pnsc .ch1)

/-- `RD MOD2` (R45). -/
def execRdMod2 (_t : Time) (s : State) : Host.Outcome State Fault Refusal := answerRead s (modWord s.pnsc .ch2)

/-- `RD PULSE1` (R46). -/
def execRdPulse1 (t : Time) (s : State) : Host.Outcome State Fault Refusal := answerRead s (pulseWord s.cfg s.pnsc .ch1 t)

/-- `RD PULSE2` (R46). -/
def execRdPulse2 (t : Time) (s : State) : Host.Outcome State Fault Refusal := answerRead s (pulseWord s.cfg s.pnsc .ch2 t)

/-- `RD PTIME1` (R47). -/
def execRdPtime1 (_t : Time) (s : State) : Host.Outcome State Fault Refusal := answerRead s (ptimeWord s.pnsc .ch1)

/-- `RD PTIME2` (R47). -/
def execRdPtime2 (_t : Time) (s : State) : Host.Outcome State Fault Refusal := answerRead s (ptimeWord s.pnsc .ch2)

/-- `RD LEDA` (R48). -/
def execRdLeda (_t : Time) (s : State) : Host.Outcome State Fault Refusal := answerRead s (ledaWord s.pnsc)

/-- `RD LEDB` (R48). -/
def execRdLedb (_t : Time) (s : State) : Host.Outcome State Fault Refusal := answerRead s (ledbWord s.pnsc)

/-- `RD TAPINT` (R49). -/
def execRdTapint (_t : Time) (s : State) : Host.Outcome State Fault Refusal := answerRead s (tapintWord s.pnsc)

/-- `RD TAPLAST` (R49). -/
def execRdTaplast (_t : Time) (s : State) : Host.Outcome State Fault Refusal := answerRead s s.pnsc.lastTap

/-- `RD TRIGLAST` (R49). -/
def execRdTriglast (_t : Time) (s : State) : Host.Outcome State Fault Refusal := answerRead s s.pnsc.lastTrig

/-- `RD LENTIME` (R49). -/
def execRdLentime (_t : Time) (s : State) : Host.Outcome State Fault Refusal := answerRead s (lentimeWord s.pnsc)

/-- Reserved read address 0x13 (R40). -/
def execRdReserved13 (_t : Time) (s : State) : Host.Outcome State Fault Refusal := answerRead s reservedReadWord

/-- Reserved read address 0x14 (R40). -/
def execRdReserved14 (_t : Time) (s : State) : Host.Outcome State Fault Refusal := answerRead s reservedReadWord

/-- Reserved read address 0x15 (R40). -/
def execRdReserved15 (_t : Time) (s : State) : Host.Outcome State Fault Refusal := answerRead s reservedReadWord

/-- Reserved read address 0x16 (R40). -/
def execRdReserved16 (_t : Time) (s : State) : Host.Outcome State Fault Refusal := answerRead s reservedReadWord

/-- Reserved read address 0x17 (R40). -/
def execRdReserved17 (_t : Time) (s : State) : Host.Outcome State Fault Refusal := answerRead s reservedReadWord

/-- Reserved read address 0x18 (R40). -/
def execRdReserved18 (_t : Time) (s : State) : Host.Outcome State Fault Refusal := answerRead s reservedReadWord

/-- Reserved read address 0x19 (R40). -/
def execRdReserved19 (_t : Time) (s : State) : Host.Outcome State Fault Refusal := answerRead s reservedReadWord

/-- Reserved read address 0x1A (R40). -/
def execRdReserved1A (_t : Time) (s : State) : Host.Outcome State Fault Refusal := answerRead s reservedReadWord

/-- Reserved read address 0x1B (R40). -/
def execRdReserved1B (_t : Time) (s : State) : Host.Outcome State Fault Refusal := answerRead s reservedReadWord

/-- Reserved read address 0x1C (R40). -/
def execRdReserved1C (_t : Time) (s : State) : Host.Outcome State Fault Refusal := answerRead s reservedReadWord

/-- Reserved read address 0x1D (R40). -/
def execRdReserved1D (_t : Time) (s : State) : Host.Outcome State Fault Refusal := answerRead s reservedReadWord

/-- Reserved read address 0x1E (R40). -/
def execRdReserved1E (_t : Time) (s : State) : Host.Outcome State Fault Refusal := answerRead s reservedReadWord

/-- Reserved read address 0x1F (R40). -/
def execRdReserved1F (_t : Time) (s : State) : Host.Outcome State Fault Refusal := answerRead s reservedReadWord

end Sys2Proof.Machine
end

