-- ==== Sys2Proof/Machine/Selection.lean ====
section
/-! DEFINITION. `RESOLVE` (46_selection.md). -/

namespace Sys2Proof.Machine

/-- `RESOLVE` (R240, R248). It does not write `prev_sel`. -/
def execResolve (sel : BitVec 2) (mod kx ky km : Byte) (now : Time) (s : State) : Host.Outcome State Fault Refusal :=
  let (lenchg, p) := resolve s.cfg sel mod kx ky now s.pnsc
  finish s (p.setResult
    (resultWord { lenchg := lenchg } (selectionPayload p.len p.div p.scaleIdx (probabilityOf km))))

end Sys2Proof.Machine
end

