-- ==== Sys2Proof/Machine/ShiftRegister.lean ====
section
/-! DEFINITION. `SRSTEP` (42_shift_register.md). -/

namespace Sys2Proof.Machine

/-- `SRSTEP` (R160, R165): length and probability come from the command word. -/
def execSrstep (ch : Channel) (km : Byte) (lm1 : BitVec 4) (r1 : Draw) (s : State) : Host.Outcome State Fault Refusal :=
  let rep := shiftStep (s.pnsc.chan ch).R (stepLength lm1) (probabilityOf km) r1
  finish s ((s.pnsc.setR ch rep.R).setResult (resultWord {} (stepPayload rep.R rep.b rep.flip rep.nb)))

end Sys2Proof.Machine
end

