-- ==== Sys2Proof/Machine/TapTempo.lean ====
section
/-! DEFINITION. `TAPTMP` (41_tap_tempo.md). -/

namespace Sys2Proof.Machine

/-- `TAPTMP` (R140, R147). It runs the estimator whatever the clock state is, and always writes `prev_sel`. -/
def execTaptmp (sel : BitVec 2) (now : Time) (s : State) : Host.Outcome State Fault Refusal :=
  let (rep, p) := tap s.cfg sel now s.pnsc
  finish s ((p.setPrevSel sel).setResult
    (resultWord { trig := rep.trig, tapedge := rep.edge, tapacc := rep.acc } (intervalPayload p.interval)))

end Sys2Proof.Machine
end

