-- ==== Sys2Proof/Machine/Tick.lean ====
section
/-! DEFINITION. `TICK`, `DISPLAY`, `NOP` and the reserved opcodes (47_tick.md). -/

namespace Sys2Proof.Machine

/-- What phase (b) of a tick reports (R260). -/
structure TriggerReport where
  trig : Bool
  plug : Bool
  edge : Bool
  acc : Bool
  deriving DecidableEq, Repr

/-- Phase (b) (R260, R262): clock recovery always, the tap-tempo estimator only when the sample is unplugged,
`prev_sel` in every tick. -/
def triggerPhase (c : Config) (sel : BitVec 2) (clk : Byte) (now : Time) (p : Pnsc) : TriggerReport × Pnsc :=
  let (rc, p1) := clkrec c clk p
  if rc.plug then ({ trig := rc.trig, plug := true, edge := false, acc := false }, p1.setPrevSel sel)
  else
    let (rt, p2) := tap c sel now p1
    ({ trig := rc.trig || rt.trig, plug := false, edge := rt.edge, acc := rt.acc }, p2.setPrevSel sel)

/-- Phase (c) (R260, R261): on a trigger, channel 1, then the divider, then channel 2 if the divider signals. It
answers `adv2`. -/
def advancePhase (c : Config) (trig : Bool) (prob : Byte) (r1 r2 : Draw) (now : Time) (p : Pnsc) : Bool × Pnsc :=
  if trig then
    let (adv2, p2) := divtick (advance c .ch1 prob r1 now p)
    (adv2, if adv2 then advance c .ch2 prob r2 now p2 else p2)
  else (false, p)

/-- `TICK` (R260, R266): the phases (a) to (d) in order, each on the state the one before it left (R261). -/
def execTick (sel : BitVec 2) (clk mod kx ky km : Byte) (now : Time) (r1 r2 : Draw) (s : State) :
    Host.Outcome State Fault Refusal :=
  let (lenchg, pa) := resolve s.cfg sel mod kx ky now s.pnsc
  let prob := probabilityOf km
  let (rep, pb) := triggerPhase s.cfg sel clk now pa
  let (adv2, pc) := advancePhase s.cfg rep.trig prob r1 r2 now pb
  let (win, pd) := display s.cfg now pc
  finish s (pd.setResult
    (resultWord
      { trig := rep.trig, plugged := rep.plug, adv1 := rep.trig, adv2 := adv2, tapedge := rep.edge, tapacc := rep.acc,
        lenchg := lenchg, dispwin := win }
      (selectionPayload pd.len pd.div pd.scaleIdx prob)))

/-- `DISPLAY` (R270). -/
def execDisplay (now : Time) (s : State) : Host.Outcome State Fault Refusal :=
  let (win, p) := display s.cfg now s.pnsc
  finish s (p.setResult (resultWord { dispwin := win } 0))

/-- What `NOP` and the reserved opcodes do (R280, R95): no state is written, `RESULT` included. -/
def doNothing (s : State) : Host.Outcome State Fault Refusal := finish s s.pnsc

/-- `NOP` (R280). -/
def execNop (s : State) : Host.Outcome State Fault Refusal := doNothing s

/-- Reserved opcode 0xB (R95, R280). -/
def execReservedB (s : State) : Host.Outcome State Fault Refusal := doNothing s

/-- Reserved opcode 0xC (R95, R280). -/
def execReservedC (s : State) : Host.Outcome State Fault Refusal := doNothing s

/-- Reserved opcode 0xD (R95, R280). -/
def execReservedD (s : State) : Host.Outcome State Fault Refusal := doNothing s

/-- Reserved opcode 0xE (R95, R280). -/
def execReservedE (s : State) : Host.Outcome State Fault Refusal := doNothing s

/-- Reserved opcode 0xF (R95, R280). -/
def execReservedF (s : State) : Host.Outcome State Fault Refusal := doNothing s

end Sys2Proof.Machine
end

