-- ==== Sys2Proof/Machine/Dispatch.lean ====
section
/-! DEFINITION. The meaning of every instruction: one arm per constructor of `Instr`, one call per arm. -/

namespace Sys2Proof.Machine

-- Every row of spec/opcode_table.json has its meaning; no arm is rejected.
def exec (i : Instr) (s : State) : Host.Outcome State Fault Refusal :=
  match i with
  | .nop => Sys2Proof.Machine.execNop s
  | .tick sel clk mod kx ky km now r1 r2 => Sys2Proof.Machine.execTick sel clk mod kx ky km now r1 r2 s
  | .resolve sel mod kx ky km now => Sys2Proof.Machine.execResolve sel mod kx ky km now s
  | .clkrec clk => Sys2Proof.Machine.execClkrec clk s
  | .taptmp sel now => Sys2Proof.Machine.execTaptmp sel now s
  | .srstep ch km lm1 r1 => Sys2Proof.Machine.execSrstep ch km lm1 r1 s
  | .divtick => Sys2Proof.Machine.execDivtick s
  | .quant clk sc => Sys2Proof.Machine.execQuant clk sc s
  | .emit ch now => Sys2Proof.Machine.execEmit ch now s
  | .ptrig ch now => Sys2Proof.Machine.execPtrig ch now s
  | .display now => Sys2Proof.Machine.execDisplay now s
  | .reservedB => Sys2Proof.Machine.execReservedB s
  | .reservedC => Sys2Proof.Machine.execReservedC s
  | .reservedD => Sys2Proof.Machine.execReservedD s
  | .reservedE => Sys2Proof.Machine.execReservedE s
  | .reservedF => Sys2Proof.Machine.execReservedF s
  | .rdResult t => Sys2Proof.Machine.execRdResult t s
  | .rdStatus t => Sys2Proof.Machine.execRdStatus t s
  | .rdClklast t => Sys2Proof.Machine.execRdClklast t s
  | .rdReg1 t => Sys2Proof.Machine.execRdReg1 t s
  | .rdReg2 t => Sys2Proof.Machine.execRdReg2 t s
  | .rdPitch1 t => Sys2Proof.Machine.execRdPitch1 t s
  | .rdPitch2 t => Sys2Proof.Machine.execRdPitch2 t s
  | .rdMod1 t => Sys2Proof.Machine.execRdMod1 t s
  | .rdMod2 t => Sys2Proof.Machine.execRdMod2 t s
  | .rdPulse1 t => Sys2Proof.Machine.execRdPulse1 t s
  | .rdPulse2 t => Sys2Proof.Machine.execRdPulse2 t s
  | .rdPtime1 t => Sys2Proof.Machine.execRdPtime1 t s
  | .rdPtime2 t => Sys2Proof.Machine.execRdPtime2 t s
  | .rdLeda t => Sys2Proof.Machine.execRdLeda t s
  | .rdLedb t => Sys2Proof.Machine.execRdLedb t s
  | .rdTapint t => Sys2Proof.Machine.execRdTapint t s
  | .rdTaplast t => Sys2Proof.Machine.execRdTaplast t s
  | .rdTriglast t => Sys2Proof.Machine.execRdTriglast t s
  | .rdLentime t => Sys2Proof.Machine.execRdLentime t s
  | .rdReserved13 t => Sys2Proof.Machine.execRdReserved13 t s
  | .rdReserved14 t => Sys2Proof.Machine.execRdReserved14 t s
  | .rdReserved15 t => Sys2Proof.Machine.execRdReserved15 t s
  | .rdReserved16 t => Sys2Proof.Machine.execRdReserved16 t s
  | .rdReserved17 t => Sys2Proof.Machine.execRdReserved17 t s
  | .rdReserved18 t => Sys2Proof.Machine.execRdReserved18 t s
  | .rdReserved19 t => Sys2Proof.Machine.execRdReserved19 t s
  | .rdReserved1A t => Sys2Proof.Machine.execRdReserved1A t s
  | .rdReserved1B t => Sys2Proof.Machine.execRdReserved1B t s
  | .rdReserved1C t => Sys2Proof.Machine.execRdReserved1C t s
  | .rdReserved1D t => Sys2Proof.Machine.execRdReserved1D t s
  | .rdReserved1E t => Sys2Proof.Machine.execRdReserved1E t s
  | .rdReserved1F t => Sys2Proof.Machine.execRdReserved1F t s

end Sys2Proof.Machine
end

