-- ==== Sys2Proof/Machine/Input.lean ====
section
/-! DEFINITION. How PNSC takes what is presented to it: the reset event of R310, and how the next input is taken
(R320, R341). -/

namespace Sys2Proof.Machine

/-- A reset event (R310): every register of PNSC gets its reset value in one atomic step. The configuration, what
the host presents next and the last answer of the read port are no registers of PNSC. -/
def resetEvent (r : ResetInputs) (s : State) : State := { s with pnsc := pnscReset s.cfg r }

/-- Running one input (R71, R320): an access runs its instruction to completion, a reset event resets. -/
def runInput (x : Input) (s : State) : Host.Outcome State Fault Refusal :=
  match x with
  | .access a => exec (decode a) s
  | .reset r => .next (resetEvent r s)

/-- Taking the next input and running it. With nothing presented PNSC is idle "and holds its state" (R299): the
state stays as it is. -/
def takeInput (s : State) : Host.Outcome State Fault Refusal :=
  match s.inputs with
  | [] => .next s
  | x :: rest => runInput x { s with inputs := rest }

/-- Presenting an input before all others. -/
def presentNext (x : Input) (s : State) : State := { s with inputs := x :: s.inputs }

end Sys2Proof.Machine
end

