-- ==== Sys2Proof/Machine/Step.lean ====
section
/-! DEFINITION. One step of the machine. -/

namespace Sys2Proof.Machine

/-- One step: the next input is taken and run (Sys2Proof/Machine/Input.lean). -/
def step (s : State) : Host.Outcome State Fault Refusal := takeInput s

/-- `s` with an instruction's bits presented as the very next access: PNSC has no program counter and no
instruction memory (R24), so the command port's next word is where `step` finds its instruction. -/
def State.withFetchWord (s : State) (nbits w : Nat) : State := presentNext (.access (tableAccess nbits w)) s

end Sys2Proof.Machine
end

