-- ==== Sys2Proof/Machine/Denote.lean ====
section
/-! DEFINITION. What the integer codes denote (R14): the real quantities of the algorithms, as rational numbers.
No operation computes with them: "every rule computes on the integers" (R14). -/

namespace Sys2Proof.Machine

/-- `TIME_HZ`: time units per second (R8). -/
def timeHz : Nat := 1000

/-- A knob code or a probability code `k` denotes `k / 255` (R14). -/
def knobValue (k : Byte) : ℚ := k.toNat / kMax

/-- A draw `r` denotes `r / 65536` (R14). -/
def drawValue (r : Draw) : ℚ := r.toNat / 65536

/-- A time value denotes seconds (R14). -/
def seconds (t : Time) : ℚ := t.toNat / timeHz

/-- A pitch value `S` denotes the normalized CV `S / 120` (R14, R195). -/
def cvValue (S : BitVec 16) : ℚ := S.toInt / cvSpan

/-- A modulation value `M` denotes `M / 510` (R14, R197). -/
def modulationValue (M : BitVec 16) : ℚ := M.toInt / 510

/-- A pulse level denotes `v / 65535` (R14). -/
def levelValue (v : Nat) : ℚ := v / pulseFull

/-- A brightness code denotes `b / 255` (R14). -/
def brightnessValue (b : BitVec 8) : ℚ := b.toNat / 255

end Sys2Proof.Machine
end

