-- ==== Sys2Proof/Safety.lean ====
section
/-! DEFINITION. The terms claims are stated in: legal states, runs, the duties of the host (R322), and which state
elements an instruction is allowed to write (the "written only by" sentences of R22 and R26 to R35). -/

namespace Sys2Proof.Machine

/-! ### Legal states -/

/-- What R28 and R29 say is always true of the registers. -/
structure LegalPnsc (p : Pnsc) : Prop where
  /-- `len` is a member of `LENGTHS` and `len_idx` is its index (R29). -/
  lenAtIndex : lengths[p.lenIdx.toNat]? = some p.len.toNat
  /-- `div` is a member of `DIVISORS` (R29). -/
  divInTable : p.div.toNat ∈ divisors
  /-- `scale_idx` is in 0..6 (R29). -/
  scaleInRom : p.scaleIdx.toNat ≤ 6
  /-- `T_MIN <= interval` (R28). -/
  intervalLow : tMin ≤ p.interval.toNat
  /-- `interval <= T_MAX` (R28). -/
  intervalHigh : p.interval.toNat ≤ tMax

/-- A state whose configuration meets R9 and whose registers are legal. -/
structure LegalState (s : State) : Prop where
  config : s.cfg.wellFormed = true
  registers : LegalPnsc s.pnsc

/-! ### Runs -/

/-- The states after each of a list of instructions, as long as they answer a next state. -/
def runInstrs : List Instr → State → List State
  | [], _ => []
  | i :: is, s =>
    match exec i s with
    | .next t => t :: runInstrs is t
    | .fault _ => []
    | .refused _ => []

/-- The state at position `k` of a run: the start state at 0, then the state after the `k`-th instruction. -/
def stateAt (is : List Instr) (s : State) (k : Nat) : Option State := (s :: runInstrs is s)[k]?

/-- `k` steps of the machine end in a state: no fault, no refusal (R341). -/
def RunsFor (k : Nat) (s : State) : Prop := ∃ t : State, Host.Core.run Sys2Proof.core k s = .next t

/-- The register of channel `c` at position `k` of a run. -/
def registerAt (is : List Instr) (s : State) (c : Channel) (k : Nat) : Option (BitVec 16) :=
  (stateAt is s k).map (fun t => (t.pnsc.chan c).R)

/-- Bit 0 of that register: `x(t)` of R166. -/
def newestBitAt (is : List Instr) (s : State) (c : Channel) (k : Nat) : Option Bool :=
  (registerAt is s c k).map (fun R => R.getLsbD 0)

/-! ### Elapsed time, written on numbers -/

/-- The elapsed time from `b` to `a`, modulo 2^32, on numbers (R12). -/
def elapsed (a b : Time) : Nat := (a.toNat + (2 ^ 32 - b.toNat)) % 2 ^ 32

/-- A truth value as the number 0 or 1. -/
def bitNat (b : Bool) : Nat := if b then 1 else 0

/-! ### The duties of the host -/

/-- The `now` a command reads, if it reads one (R93, R323). -/
def commandTime : Instr → Option Time
  | .tick _ _ _ _ _ _ now _ _ => some now
  | .resolve _ _ _ _ _ now => some now
  | .taptmp _ now => some now
  | .emit _ now => some now
  | .ptrig _ now => some now
  | .display now => some now
  | _ => none

/-- The host keeps time from the latest `now` (or `now_rst`) on: each `now` is less than 2^31 units later than the
one before it, and no read is earlier than the last command (R322). -/
def hostKeepsTime (last : Time) : List Input → Bool
  | [] => true
  | .reset r :: rest => hostKeepsTime r.nowRst rest
  | .access (.read _ t) :: rest => decide ((tdiff t last).toNat < 2 ^ 31) && hostKeepsTime last rest
  | .access (.command w) :: rest =>
    match commandTime (decodeCommand w) with
    | some now => decide ((tdiff now last).toNat < 2 ^ 31) && hostKeepsTime now rest
    | none => hostKeepsTime last rest

/-- The true times, not reduced modulo 2^32, at which the stored time stamps were taken. -/
structure TrueStamps where
  lastTap : Nat
  lastTrig : Nat
  lenTime : Nat
  ptime1 : Nat
  ptime2 : Nat
  deriving DecidableEq, Repr

/-- A stored stamp that was taken at the true time `taken`, is not in the future of `now`, and is not older than
2^32 - 1 units (R322). -/
abbrev FreshStamp (now taken : Nat) (stored : Time) : Prop :=
  stored = BitVec.ofNat 32 taken ∧ taken ≤ now ∧ now - taken ≤ 2 ^ 32 - 1

/-- Every stamp in use is fresh at the true time `now` (R322): `last_tap` and `last_trig` always, `len_time` while
`disp = 1`, `ptime[c]` while `act[c] = 1`. -/
structure StampsInUseFresh (now : Nat) (g : TrueStamps) (p : Pnsc) : Prop where
  lastTap : FreshStamp now g.lastTap p.lastTap
  lastTrig : FreshStamp now g.lastTrig p.lastTrig
  lenTime : p.disp = true → FreshStamp now g.lenTime p.lenTime
  ptime1 : p.ch1.act = true → FreshStamp now g.ptime1 p.ch1.ptime
  ptime2 : p.ch2.act = true → FreshStamp now g.ptime2 p.ch2.ptime

/-! ### Who may write what -/

/-- The instruction steps the register of channel `c` (R22). -/
def stepsRegister (c : Channel) : Instr → Bool
  | .srstep ch _ _ _ => decide (ch = c)
  | .tick _ _ _ _ _ _ _ _ _ => true
  | _ => false

/-- The instruction runs clock recovery (R26, R27). -/
def runsClockRecovery : Instr → Bool
  | .clkrec _ => true
  | .tick _ _ _ _ _ _ _ _ _ => true
  | _ => false

/-- The instruction may run the tap-tempo estimator or records the selector (R28). -/
def runsTapTempo : Instr → Bool
  | .taptmp _ _ => true
  | .tick _ _ _ _ _ _ _ _ _ => true
  | _ => false

/-- The instruction resolves the selections (R29, R35). -/
def runsResolve : Instr → Bool
  | .resolve _ _ _ _ _ _ => true
  | .tick _ _ _ _ _ _ _ _ _ => true
  | _ => false

/-- The instruction runs the divider (R30). -/
def runsDivider : Instr → Bool
  | .divtick => true
  | .tick _ _ _ _ _ _ _ _ _ => true
  | _ => false

/-- The instruction emits on channel `c` (R32). -/
def emitsOn (c : Channel) : Instr → Bool
  | .emit ch _ => decide (ch = c)
  | .tick _ _ _ _ _ _ _ _ _ => true
  | _ => false

/-- The instruction triggers the pulse of channel `c` (R31). -/
def triggersPulse (c : Channel) : Instr → Bool
  | .ptrig ch _ => decide (ch = c)
  | i => emitsOn c i

/-- The instruction runs the display operation (R33). -/
def runsDisplay : Instr → Bool
  | .display _ => true
  | .tick _ _ _ _ _ _ _ _ _ => true
  | _ => false

/-- The instruction is a command that writes `RESULT` (R34: every command except `NOP` and the reserved opcodes). -/
def writesResult : Instr → Bool
  | .tick _ _ _ _ _ _ _ _ _ => true
  | .resolve _ _ _ _ _ _ => true
  | .clkrec _ => true
  | .taptmp _ _ => true
  | .srstep _ _ _ _ => true
  | .divtick => true
  | .quant _ _ => true
  | .emit _ _ => true
  | .ptrig _ _ => true
  | .display _ => true
  | _ => false

/-- The bits of a command word that its command reads, the opcode among them (R91, R93). -/
def readMask (op : Nat) : CmdWord :=
  let ones (lo width : Nat) : CmdWord := BitVec.ofNat 128 ((2 ^ width - 1) * 2 ^ lo)
  let opBits := ones 0 4
  match op with
  | 1 =>
    opBits ||| ones 4 2 ||| ones 8 8 ||| ones 16 8 ||| ones 24 8 ||| ones 32 8 ||| ones 40 8 ||| ones 64 32
      ||| ones 96 16 ||| ones 112 16
  | 2 => opBits ||| ones 4 2 ||| ones 16 8 ||| ones 24 8 ||| ones 32 8 ||| ones 40 8 ||| ones 64 32
  | 3 => opBits ||| ones 8 8
  | 4 => opBits ||| ones 4 2 ||| ones 64 32
  | 5 => opBits ||| ones 6 1 ||| ones 40 8 ||| ones 48 4 ||| ones 96 16
  | 7 => opBits ||| ones 8 8 ||| ones 52 3
  | 8 => opBits ||| ones 6 1 ||| ones 64 32
  | 9 => opBits ||| ones 6 1 ||| ones 64 32
  | 10 => opBits ||| ones 64 32
  | _ => opBits

/-- The number in a field of a command word (R91: every field is an unsigned number). -/
def fieldValue (f : CmdFields) : Field → Nat
  | .sel => f.sel.toNat
  | .ch => f.ch.toNat
  | .clk => f.clk.toNat
  | .mod => f.mod.toNat
  | .kx => f.kx.toNat
  | .ky => f.ky.toNat
  | .km => f.km.toNat
  | .lm1 => f.lm1.toNat
  | .sc => f.sc.toNat
  | .now => f.now.toNat
  | .r1 => f.r1.toNat
  | .r2 => f.r2.toNat

/-! ### A tick from unit commands -/

/-- What the tick composed of unit commands has done: the registers it reached, those before its phase (d) (R260),
and the flags it collected. -/
structure ComposedTick where
  pnsc : Pnsc
  advanced : Pnsc
  trig : Bool
  plugged : Bool
  adv2 : Bool
  tapedge : Bool
  tapacc : Bool
  lenchg : Bool
  dispwin : Bool
  deriving DecidableEq, Repr

/-- The registers after a unit command; a unit command always answers a next state. -/
def pnscAfter (i : Instr) (c : Config) (p : Pnsc) : Pnsc :=
  match exec i { pnsc := p, cfg := c, inputs := [], rdData := 0 } with
  | .next t => t.pnsc
  | .fault _ => p
  | .refused _ => p

/-- A channel's advance from `SRSTEP` and `EMIT` (R263: "a host can compose it from `SRSTEP` and `EMIT`"). -/
def composedAdvance (c : Config) (ch : Channel) (km : Byte) (r : Draw) (now : Time) (p : Pnsc) : Pnsc :=
  pnscAfter (.emit ch now) c (pnscAfter (.srstep ch km (BitVec.ofNat 4 (p.len.toNat - 1)) r) c p)

/-- The phases of a tick (R260) made of the unit commands, each flag taken from the `RESULT` of its command. The
one write no unit command makes alone is `prev_sel` in a plugged tick. -/
def composedTick (c : Config) (sel : BitVec 2) (clk mod kx ky km : Byte) (now : Time) (r1 r2 : Draw) (p : Pnsc) :
    ComposedTick :=
  let pa := pnscAfter (.resolve sel mod kx ky km now) c p
  let pb := pnscAfter (.clkrec clk) c pa
  let plugged := pb.result.getLsbD 1
  let pt := if plugged then pb.setPrevSel sel else pnscAfter (.taptmp sel now) c pb
  let trig := pb.result.getLsbD 0 || (!plugged && pt.result.getLsbD 0)
  let p1 := if trig then pnscAfter .divtick c (composedAdvance c .ch1 km r1 now pt) else pt
  let adv2 := trig && p1.result.getLsbD 3
  let p2 := if adv2 then composedAdvance c .ch2 km r2 now p1 else p1
  let pd := pnscAfter (.display now) c p2
  { pnsc := pd
    advanced := p2
    trig := trig
    plugged := plugged
    adv2 := adv2
    tapedge := !plugged && pt.result.getLsbD 4
    tapacc := !plugged && pt.result.getLsbD 5
    lenchg := pa.result.getLsbD 6
    dispwin := pd.result.getLsbD 7 }

end Sys2Proof.Machine
end

