-- ==== Sys2Proof/Certificates/Slice0/Obligations.lean ====
section
/-! DEFINITION. The statements for the provers, from the numbered rules of spec/. A statement about a next state is
written as an equation with the state before it, so that what it does not name is unchanged. -/

open Sys2Proof Sys2Proof.Machine

/-- For every instruction, with every operand at every value of its field, decode (encode i) = i. (R91, R92, R93,
R94, R98.) -/
def Obligations.DecodeOfEncodeIsIdentity : Prop :=
    ∀ i : Instr, decode (encode i) = i

/-- For every command word, clearing every bit outside the opcode and the fields its command reads (the table of
R93) decodes to the same instruction, and encoding that instruction gives exactly the cleared word. For every
read, encoding the decoded read gives the address and the time back. (R93, R94, R95, R98.) -/
def Obligations.UnreadBitsHaveNoEffect : Prop :=
    (∀ w : CmdWord,
      decodeCommand (w &&& readMask (w.toNat % 16)) = decodeCommand w ∧
      encode (decodeCommand w) = .command (w &&& readMask (w.toNat % 16))) ∧
    ∀ (a : ReadAddr) (t : Time), encode (decodeRead a t) = .read a t

/-- The example word of R100 (a TICK); the TAPTMP word of T4 (section 2.2); a NOP and a DIVTICK with every other bit
set, and two reserved opcodes (sections 2.9 and 2.10; R95); one word each of RESOLVE, CLKREC, SRSTEP, QUANT,
EMIT, PTRIG and DISPLAY from the programs P2 and P4 (section 3): each decodes to the command the spec writes
beside it. The read address 0x01 is STATUS (R40, R98). (R100, R95, R98, R40, 95_test_vectors.md section 2.2,
95_test_vectors.md section 2.9, 95_test_vectors.md section 2.10, 95_test_vectors.md section 3.) -/
def Obligations.SpecWordsDecode : Prop :=
    decodeCommand 0x80008000000000100000FF00FF00C811 = .tick 1 200 0 255 0 255 16 0x8000 0x8000 ∧
    decodeCommand 0x000000000000003200004DC800640022 = .resolve 2 100 0 200 77 50 ∧
    decodeCommand 0x0000000000000000000000000000A103 = .clkrec 161 ∧
    decodeCommand 0x00000000FFFFFF380000000000000004 = .taptmp 0 0xFFFFFF38 ∧
    decodeCommand 0x0000FFFF00000000000FFF0000000045 = .srstep .ch2 255 15 65535 ∧
    decodeCommand 0xFFFFFFFFFFFFFFFFFFFFFFFFFFFFFFF6 = .divtick ∧
    decodeCommand 0x0000000000000000007000000000C807 = .quant 200 7 ∧
    decodeCommand 0x000000000000003C0000000000000048 = .emit .ch2 60 ∧
    decodeCommand 0x00000000000000460000000000000009 = .ptrig .ch1 70 ∧
    decodeCommand 0x00000000000009C3000000000000000A = .display 2499 ∧
    decodeCommand 0xFFFFFFFFFFFFFFFFFFFFFFFFFFFFFFF0 = .nop ∧
    decodeCommand 0x0000000000000000000000000000000B = .reservedB ∧
    decodeCommand 0xFFFFFFFFFFFFFFFFFFFFFFFFFFFFFFFF = .reservedF ∧
    decodeRead 0x01 320 = .rdStatus 320

/-- Byte i of a command word (i < 16) and of a read-port word (i < 4) holds bits [8i+7 : 8i]; decoding the sixteen
bytes of a word is decoding the word; fewer or more bytes are rejected by name. This last clause is the model's
choice (assumption log 9): the spec does not say what such a byte string is. (R66, R90.) -/
def Obligations.CommandBytesAreLittleEndian : Prop :=
    (∀ w : CmdWord,
      (bytesOfCommand w).length = 16 ∧
      (∀ i : Nat, i < 16 → (bytesOfCommand w)[i]? = some (w.extractLsb' (8 * i) 8)) ∧
      decodeBytes (bytesOfCommand w) = .ok (decodeCommand w)) ∧
    (∀ (w : ReadWord) (i : Nat), i < 4 → (bytesOfReadWord w)[i]? = some (w.extractLsb' (8 * i) 8)) ∧
    ∀ bs : List Byte,
      (bs.length < 16 → decodeBytes bs = .error .tooShort) ∧ (16 < bs.length → decodeBytes bs = .error .tooLong)

/-- A well-formed command line assembles to a word with the opcode of its mnemonic (R92), the given value in each
field it gives that the command reads (R93), and 0 everywhere else: in a field it omits, in a field the command
does not read, also when the line gives it (R94: "the assembler writes 0 there"), and in the reserved bits.
Every reordering of its pairs is well formed and assembles to the same word. A field value is the number in the
bits R91 gives the field. A well-formed read line assembles to the read of its address at its time. Well-
formedness (every value fits its field, no field twice) is the model's choice, and so is the line as data
(assumption log 11). (R100, R91, R92, R93, R94, R98.) -/
def Obligations.AssemblerLineGivesItsWord : Prop :=
    (∀ (m : Mnemonic) (fs : List (Field × Nat)), (AsmLine.cmd m fs).wellFormed = true →
      (∃ w : CmdWord, assemble (.cmd m fs) = .command w ∧
        [Mnemonic.NOP, .TICK, .RESOLVE, .CLKREC, .TAPTMP, .SRSTEP, .DIVTICK, .QUANT, .EMIT, .PTRIG, .DISPLAY][w.toNat % 16]? =
          some m ∧
        (∀ (f : Field) (v : Nat), (f, v) ∈ fs → f ∈ m.reads → fieldValue (fieldsOf w) f = v) ∧
        (∀ f : Field, f ∉ fs.map Prod.fst ∨ f ∉ m.reads → fieldValue (fieldsOf w) f = 0) ∧
        encode (decodeCommand w) = .command w) ∧
      ∀ gs : List (Field × Nat), fs.Perm gs →
        (AsmLine.cmd m gs).wellFormed = true ∧ assemble (.cmd m gs) = assemble (.cmd m fs)) ∧
    (∀ (w : CmdWord) (f : Field),
      fieldValue (fieldsOf w) f = w.toNat / 2 ^ f.place.1 % 2 ^ f.place.2) ∧
    ∀ (a : ReadAddr) (t : Nat), (AsmLine.rd a t).wellFormed = true →
      ∃ t' : Time, assemble (.rd a t) = .read a t' ∧ t'.toNat = t

/-- If the next input is an access, step is exec of its decoding on the state with that input taken; if it is a
reset event, step resets the registers; with nothing presented, the state stays (R299: "Between commands it is
idle and holds its state"). The queue of inputs is the model's own (assumption log 5), and that the
configuration, the queue and the word of the last read survive a reset event is the model's choice (assumption
log 17): the rules speak of the registers of PNSC, none of which survives. (R320, R341, R299, R310, R312.) -/
def Obligations.StepRunsTheDecodedInstruction : Prop :=
    ∀ s : State,
      (∀ (x : Access) (rest : List Input), s.inputs = .access x :: rest →
        step s = exec (decode x) { s with inputs := rest }) ∧
      (∀ (r : ResetInputs) (rest : List Input), s.inputs = .reset r :: rest →
        step s = .next { s with inputs := rest, pnsc := pnscReset s.cfg r }) ∧
      (s.inputs = [] → step s = .next s)

/-- For every row word w of nbits bits, decodeTableWord answers an instruction i, and the step after presenting that
word is exec of i on the unchanged state. For a 128-bit word, i is the decoding of the word, through its sixteen
bytes. The model's choices: five bits are a read of the read port at time 0, any other width is a command word
with zeros above it (assumption log 8), and a word is presented at the head of the queue of inputs (assumption
logs 5 and 7). (R61, R66, R90, R98.) -/
def Obligations.PresentedWordIsDecodedAndRun : Prop :=
    (∀ (nbits w : Nat) (s : State), ∃ i : Instr,
      decodeTableWord nbits w = some i ∧ step (s.withFetchWord nbits w) = exec i s) ∧
    ∀ w : CmdWord, decodeTableWord 128 w.toNat = some (decodeCommand w)

/-- For every instruction (every command word and every read decodes to one) and every state, exec answers a next
state; the type of faults has no element. (R290.) -/
def Obligations.EveryInstructionCompletes : Prop :=
    (∀ (i : Instr) (s : State), ∃ t : State, exec i s = .next t) ∧ ∀ _f : Fault, False

/-- From every state, every number of steps ends in a state: no fault, no refusal, no stuck state. (R341.) -/
def Obligations.EveryRunContinues : Prop :=
    ∀ (k : Nat) (s : State), RunsFor k s

/-- A state is legal when its configuration meets the constraints of R9, len is the entry of LENGTHS at len_idx, div
is in DIVISORS, scale_idx is in 0..6, and interval is in 100..2000. From every legal state, whatever is
presented (any command word, any read, any reset event), a step gives a legal state. (R28, R29, R9.) -/
def Obligations.StepKeepsLegalState : Prop :=
    ∀ s t : State, LegalState s → step s = .next t → LegalState t

/-- State.reset is a legal state; for every configuration that meets R9 and every reset event, the registers after
it are legal. (That State.reset holds the parameters P0 is the model's choice, assumption log 1.) (R50, R9.) -/
def Obligations.ResetIsLegal : Prop :=
    LegalState State.reset ∧
    ∀ (c : Config) (r : ResetInputs), c.wellFormed = true → LegalPnsc (pnscReset c r)

/-- Under every configuration that meets R9, a step that takes a reset event gives a state whose registers have the
values of R310. Elements the rule leaves unspecified are not constrained. (R310, R50.) -/
def Obligations.ResetEventAssignsTheStatedValues : Prop :=
    ∀ (s : State) (r : ResetInputs) (rest : List Input), s.cfg.wellFormed = true → s.inputs = .reset r :: rest →
      ∃ t : State, step s = .next t ∧
        t.pnsc.ch1.R = r.seed1 ∧ t.pnsc.ch2.R = r.seed2 ∧ t.pnsc.clkState = .unplugged ∧
        t.pnsc.lastTap = r.nowRst ∧ t.pnsc.lastTrig = r.nowRst ∧
        t.pnsc.interval.toNat = s.cfg.tapIntervalReset ∧ t.pnsc.prevSel.toNat = s.cfg.tapPos ∧
        t.pnsc.len.toNat = 16 ∧ t.pnsc.lenIdx.toNat = 7 ∧ t.pnsc.div.toNat = 1 ∧ t.pnsc.scaleIdx.toNat = 0 ∧
        t.pnsc.divCnt.toNat = 0 ∧ t.pnsc.ch1.act = false ∧ t.pnsc.ch2.act = false ∧
        t.pnsc.led = { led0 := 0, led1 := 0, led2 := 0, led3 := 0, led4 := 0, led5 := 0 } ∧
        t.pnsc.result = 0 ∧ t.pnsc.disp = false

/-- With THRESHOLD_LOW < THRESHOLD_HIGH (R9): CLKREC answers the next state that differs in clk_state, clk_last and
RESULT only. Not plugged: UNPLUGGED, no trigger. Plugged and below THRESHOLD_LOW: LOW, no trigger. Plugged and
between the thresholds, both included: HIGH stays, anything else becomes LOW, no trigger. Plugged and above
THRESHOLD_HIGH: HIGH, and a trigger exactly when the state was not HIGH. RESULT = trig + 2 plugged + 256
clk_state. (R120, R121, R127, R128, R129.) -/
def Obligations.ClkrecFollowsTheTransitionTable : Prop :=
    ∀ (s : State) (v : Byte), s.cfg.thresholdLow < s.cfg.thresholdHigh →
      let plug := decide (s.cfg.idleHi < v.toNat ∨ v.toNat < s.cfg.idleLo)
      ∃ (st : ClkState) (trig : Bool),
        exec (.clkrec v) s = .next { s with pnsc := { s.pnsc with
          clkState := st
          clkLast := v
          result := BitVec.ofNat 32 (bitNat trig + 2 * bitNat plug + 256 * (clkCode st).toNat) } } ∧
        (plug = false → st = .unplugged ∧ trig = false) ∧
        (plug = true → v.toNat < s.cfg.thresholdLow → st = .low ∧ trig = false) ∧
        (plug = true → s.cfg.thresholdLow ≤ v.toNat → v.toNat ≤ s.cfg.thresholdHigh →
          st = (if s.pnsc.clkState = .high then .high else .low) ∧ trig = false) ∧
        (plug = true → s.cfg.thresholdHigh < v.toNat → st = .high ∧ trig = decide (s.pnsc.clkState ≠ .high))

/-- A sequence of CLKREC commands whose samples are all at most THRESHOLD_HIGH fires no trigger, from any state; a
sequence from state HIGH whose samples are all plugged and at least THRESHOLD_LOW fires none either. Every
command of the sequence completes. (R130.) -/
def Obligations.HysteresisPreventsTriggers : Prop :=
    ∀ (s : State) (vs : List Byte),
      (runInstrs (vs.map Instr.clkrec) s).length = vs.length ∧
      ((∀ v ∈ vs, v.toNat ≤ s.cfg.thresholdHigh) →
        ∀ t ∈ runInstrs (vs.map Instr.clkrec) s, t.pnsc.result.getLsbD 0 = false) ∧
      (s.pnsc.clkState = .high → (∀ v ∈ vs, plugged s.cfg v = true ∧ s.cfg.thresholdLow ≤ v.toNat) →
        ∀ t ∈ runInstrs (vs.map Instr.clkrec) s, t.pnsc.result.getLsbD 0 = false)

/-- TAPTMP answers the next state that differs in interval, last_tap, last_trig, prev_sel and RESULT only. A tap
edge is a change to TAP_POS; its gap is the time since last_tap modulo 2^32; it is accepted in 100..2000 and
then is the new interval; every edge writes last_tap. The free-running trigger fires when more than the new
interval has passed since last_trig, and only it writes last_trig. prev_sel is always written. RESULT = trig +
16 edge + 32 acc + 256 interval. (R142, R143, R144, R145, R146, R147, R148.) -/
def Obligations.TaptmpFollowsTheEstimator : Prop :=
    ∀ (s : State) (sel : BitVec 2) (now : Time),
      let edge := decide (s.pnsc.prevSel.toNat ≠ s.cfg.tapPos ∧ sel.toNat = s.cfg.tapPos)
      let gap := elapsed now s.pnsc.lastTap
      let acc := edge && decide (100 ≤ gap ∧ gap ≤ 2000)
      let iv := if acc then gap else s.pnsc.interval.toNat
      let free := decide (iv < elapsed now s.pnsc.lastTrig)
      exec (.taptmp sel now) s = .next { s with pnsc := { s.pnsc with
        interval := BitVec.ofNat 11 iv
        lastTap := if edge then now else s.pnsc.lastTap
        lastTrig := if free then now else s.pnsc.lastTrig
        prevSel := sel
        result := BitVec.ofNat 32 (bitNat (acc || free) + 16 * bitNat edge + 32 * bitNat acc + 256 * iv) } }

/-- From any state: a selector away from TAP_POS, at it at time a, away, and at it again at time b. If the gap from
a to b is in 100..2000, then after the fourth TAPTMP the interval is that gap, last_tap is b, and RESULT reports
trigger, edge and acceptance. (R149, R143.) -/
def Obligations.TwoTapEdgesSetTheInterval : Prop :=
    ∀ (s : State) (x y tapSel : BitVec 2) (t0 a t1 b : Time),
      tapSel.toNat = s.cfg.tapPos → x.toNat ≠ s.cfg.tapPos → y.toNat ≠ s.cfg.tapPos →
      100 ≤ elapsed b a → elapsed b a ≤ 2000 →
      ∃ t : State,
        stateAt [.taptmp x t0, .taptmp tapSel a, .taptmp y t1, .taptmp tapSel b] s 4 = some t ∧
        t.pnsc.interval.toNat = elapsed b a ∧ t.pnsc.lastTap = b ∧
        t.pnsc.result.getLsbD 0 = true ∧ t.pnsc.result.getLsbD 4 = true ∧ t.pnsc.result.getLsbD 5 = true

/-- If every stamp in use was taken at a true time not in the future and is at most 2^32 - 1 units old, then each
modular difference that a rule takes from it (tap gap, free-running timer, display window, pulse age) is the
true elapsed time, across a wrap of the 32-bit time too. (R151, R322.) -/
def Obligations.FreshStampsMeasureTrueTime : Prop :=
    ∀ (now : Nat) (g : TrueStamps) (p : Pnsc), StampsInUseFresh now g p →
      (tdiff (BitVec.ofNat 32 now) p.lastTap).toNat = now - g.lastTap ∧
      (tdiff (BitVec.ofNat 32 now) p.lastTrig).toNat = now - g.lastTrig ∧
      (p.disp = true → (tdiff (BitVec.ofNat 32 now) p.lenTime).toNat = now - g.lenTime) ∧
      (p.ch1.act = true → (tdiff (BitVec.ofNat 32 now) p.ch1.ptime).toNat = now - g.ptime1) ∧
      (p.ch2.act = true → (tdiff (BitVec.ofNat 32 now) p.ch2.ptime).toNat = now - g.ptime2)

/-- With R the register of the channel and L = lm1 + 1: the fed-back bit is bit L-1 of R, it is inverted exactly
when r1 * 255 >= km * 65536, and the new register is (2 R + new bit) mod 65536. The next state differs in that
register and RESULT only; RESULT = 256 R' + 2^24 b + 2^25 flip + 2^26 nb. (R161, R165, R168.) -/
def Obligations.SrstepShiftsInTheNewBit : Prop :=
    ∀ (s : State) (c : Channel) (km : Byte) (lm1 : BitVec 4) (r1 : Draw),
      let R := (s.pnsc.chan c).R
      let b := R.getLsbD lm1.toNat
      let flip := decide (km.toNat * 65536 ≤ r1.toNat * 255)
      let nb := b ^^ flip
      let R' := (2 * R.toNat + bitNat nb) % 65536
      exec (.srstep c km lm1 r1) s = .next { s with pnsc :=
        { s.pnsc.setChan c { s.pnsc.chan c with R := BitVec.ofNat 16 R' } with
          result := BitVec.ofNat 32 (256 * R' + 2 ^ 24 * bitNat b + 2 ^ 25 * bitNat flip + 2 ^ 26 * bitNat nb) } }

/-- A draw flips exactly when the real number it denotes is at least the probability the code denotes, that is when
r >= ceil(p * 65536 / 255). Code 255 never flips, code 0 always does; both products fit in 24 bits; the draw
denotes a number in [0, 1), the code one in [0, 1]. (R162.) -/
def Obligations.FlipIsTheExactComparison : Prop :=
    ∀ (p : Byte) (r : Draw),
      (flips p r = true ↔ knobValue p ≤ drawValue r) ∧
      (flips p r = true ↔ (p.toNat * 65536 + 254) / 255 ≤ r.toNat) ∧
      flips 255 r = false ∧ flips 0 r = true ∧
      r.toNat * 255 < 2 ^ 24 ∧ p.toNat * 65536 < 2 ^ 24 ∧
      0 ≤ drawValue r ∧ drawValue r < 1 ∧ 0 ≤ knobValue p ∧ knobValue p ≤ 1

/-- Of the 65536 draws, exactly 65536 - min(65536, ceil(p * 65536 / 255)) flip. (R163.) -/
def Obligations.FlippingDrawsAreCounted : Prop :=
    ∀ p : Byte,
      ((List.range 65536).filter (fun r => flips p (BitVec.ofNat 16 r))).length =
        65536 - min 65536 ((p.toNat * 65536 + 254) / 255)

/-- A run of SRSTEP commands with km = 255 and length L, whatever the draws: bit 0 after k + L steps equals bit 0
after k steps, for every k; the low byte repeats from step 8 - L on; the whole register from step 16 - L on.
(R166.) -/
def Obligations.LockedLoopIsPeriodic : Prop :=
    ∀ (s : State) (c : Channel) (lm1 : BitVec 4) (rs : List Draw) (k : Nat), k + (lm1.toNat + 1) ≤ rs.length →
      let run := rs.map (fun r => Instr.srstep c 255 lm1 r)
      ∃ R R' : BitVec 16,
        registerAt run s c k = some R ∧ registerAt run s c (k + (lm1.toNat + 1)) = some R' ∧
        R'.getLsbD 0 = R.getLsbD 0 ∧
        (8 ≤ k + (lm1.toNat + 1) → R'.extractLsb' 0 8 = R.extractLsb' 0 8) ∧
        (16 ≤ k + (lm1.toNat + 1) → R' = R)

/-- A run of SRSTEP commands with km = 0 and length L, whatever the draws: bit 0 after k + L steps is the complement
of bit 0 after k steps, for every k; from step 16 - L on the whole register is complemented. (R167.) -/
def Obligations.FlippedLoopAlternates : Prop :=
    ∀ (s : State) (c : Channel) (lm1 : BitVec 4) (rs : List Draw) (k : Nat), k + (lm1.toNat + 1) ≤ rs.length →
      let run := rs.map (fun r => Instr.srstep c 0 lm1 r)
      ∃ R R' : BitVec 16,
        registerAt run s c k = some R ∧ registerAt run s c (k + (lm1.toNat + 1)) = some R' ∧
        R'.getLsbD 0 = !R.getLsbD 0 ∧ (16 ≤ k + (lm1.toNat + 1) → R' = ~~~R)

/-- If knob x is in the top bin (length 16) and knob main is 255, a TICK that reports a trigger leaves R[0] rotated
left by one, whatever the draws; if it also advances channel 2, R[1] is rotated too. (R268, R166.) -/
def Obligations.LockedFullLengthTickRotates : Prop :=
    ∀ (s t : State) (sel : BitVec 2) (clk mod kx ky : Byte) (now : Time) (r1 r2 : Draw), 224 ≤ kx.toNat →
      exec (.tick sel clk mod kx ky 255 now r1 r2) s = .next t →
      (t.pnsc.result.getLsbD 0 = true → t.pnsc.ch1.R = s.pnsc.ch1.R.rotateLeft 1) ∧
      (t.pnsc.result.getLsbD 3 = true → t.pnsc.ch2.R = s.pnsc.ch2.R.rotateLeft 1)

/-- With div in 1..16 (its legal values lie there): n = div_cnt + 1; if n >= div the count is cleared and adv2 is
reported, else the count is n. The new count is below div. The next state differs in div_cnt and RESULT only;
RESULT = 8 adv2 + 256 div_cnt. (R181, R182.) -/
def Obligations.DivtickCounts : Prop :=
    ∀ s : State, 1 ≤ s.pnsc.div.toNat → s.pnsc.div.toNat ≤ 16 →
      let n := s.pnsc.divCnt.toNat + 1
      let adv := decide (s.pnsc.div.toNat ≤ n)
      let n' := if adv then 0 else n
      n' < s.pnsc.div.toNat ∧ n' ≤ 15 ∧
      exec .divtick s = .next { s with pnsc := { s.pnsc with
        divCnt := BitVec.ofNat 4 n'
        result := BitVec.ofNat 32 (8 * bitNat adv + 256 * n') } }

/-- From a state with div = N in 1..16 and div_cnt = 0, in a run of k DIVTICK commands all complete, and the j-th
(counted from 1) reports adv2 exactly when N divides j. (R183.) -/
def Obligations.DivtickSignalsEveryNth : Prop :=
    ∀ (s : State) (k j : Nat), 1 ≤ s.pnsc.div.toNat → s.pnsc.div.toNat ≤ 16 → s.pnsc.divCnt.toNat = 0 → j < k →
      ∃ t : State, stateAt (List.replicate k Instr.divtick) s (j + 1) = some t ∧
        t.pnsc.result.getLsbD 3 = decide (s.pnsc.div.toNat ∣ j + 1)

/-- Under a configuration that meets R9: the scale is SCALE_ROM[sc], chromatic (entry 0) for sc = 7; n = floor(v *
NOTE_SPAN / 256); the octave is n div the scale's length and the pitch class its entry n mod the length; S =
BASE_NOTE + 12 oct + pcl - REF_NOTE. The next state differs in RESULT only, which is 256 pcl + 4096 oct + 65536
(S mod 65536). (R191, R193, R194, R195, R196, R199.) -/
def Obligations.QuantReportsTheNote : Prop :=
    ∀ (s : State) (v : Byte) (sc : BitVec 3), s.cfg.wellFormed = true →
      ∃ (scale : List Nat) (pcl : Nat),
        s.cfg.scaleRom[if sc.toNat ≤ 6 then sc.toNat else 0]? = some scale ∧
        scale[(v.toNat * s.cfg.noteSpan / 256) % scale.length]? = some pcl ∧
        let oct := (v.toNat * s.cfg.noteSpan / 256) / scale.length
        let S : Int := (s.cfg.baseNote : Int) + 12 * oct + pcl - s.cfg.refNote
        exec (.quant v sc) s = .next { s with pnsc := { s.pnsc with
          result := BitVec.ofNat 32 (256 * pcl + 4096 * oct + 65536 * (S % 65536).toNat) } }

/-- Under a configuration that meets R9, for every byte and every scale index: n < NOTE_SPAN, oct <= 15, the pitch
class is an entry of the scale and at most 11, -127 <= S <= 318, and the three fields hold exactly these values.
(R191, R194, R196.) -/
def Obligations.NotesFitTheirFields : Prop :=
    ∀ (c : Config) (v : Byte) (si : Int), c.wellFormed = true →
      let note := quant c v si
      noteIndex c v < c.noteSpan ∧ note.oct ≤ 15 ∧ note.pcl ∈ scaleOf c si ∧ note.pcl ≤ 11 ∧
      -127 ≤ note.S ∧ note.S ≤ 318 ∧
      note.pclBits.toNat = note.pcl ∧ note.octBits.toNat = note.oct ∧ note.SBits.toInt = note.S

/-- For every configuration and scale index whose scale is strictly increasing with entries below 12: if v <= v'
then S(v) <= S(v'). All reference scales are such: the seven scales of P0 (their offsets are the spec's general
knowledge, assumption log 15) rise with entries below 12, so under P0 the pitch never falls as the byte rises,
at any scale index. (R198, R192, R193.) -/
def Obligations.PitchRisesWithTheByte : Prop :=
    (∀ (c : Config) (si : Int) (v v' : Byte),
      (scaleOf c si).Pairwise (· < ·) → (∀ x ∈ scaleOf c si, x < 12) → v.toNat ≤ v'.toNat →
      (quant c v si).S ≤ (quant c v' si).S) ∧
    Config.p0.scaleRom.length = 7 ∧
    (∀ sc ∈ Config.p0.scaleRom, sc.Pairwise (· < ·) ∧ ∀ x ∈ sc, x < 12) ∧
    ∀ (si : Int) (v v' : Byte), v.toNat ≤ v'.toNat → (quant Config.p0 v si).S ≤ (quant Config.p0 v' si).S

/-- For every byte v the 16-bit field holds 2v - 255, which lies in -255..255, is never 0, and denotes v/255 - 1/2.
(R197.) -/
def Obligations.ModulationIsCentred : Prop :=
    ∀ v : Byte,
      (BitVec.ofInt 16 (modval v)).toInt = 2 * (v.toNat : Int) - 255 ∧
      -255 ≤ modval v ∧ modval v ≤ 255 ∧ modval v ≠ 0 ∧
      modval 0 = -255 ∧ modval 255 = 255 ∧ modval 127 = -1 ∧ modval 128 = 1 ∧
      modulationValue (BitVec.ofInt 16 (modval v)) = (v.toNat : ℚ) / 255 - 1 / 2

/-- Under a configuration that meets R9: with v the low byte of the channel's register and the note of v on the
stored scale, the next state differs in that channel's S, pc, oct, M, act, ptime and in RESULT only; the
register stays. (R200, R196, R197, R221.) -/
def Obligations.EmitWritesTheOutputs : Prop :=
    ∀ (s : State) (c : Channel) (now : Time), s.cfg.wellFormed = true →
      let x := s.pnsc.chan c
      let note := quant s.cfg (BitVec.ofNat 8 x.R.toNat) s.pnsc.scaleIdx.toNat
      exec (.emit c now) s = .next { s with pnsc :=
        { s.pnsc.setChan c
            { R := x.R
              act := true
              ptime := now
              S := BitVec.ofInt 16 note.S
              pc := BitVec.ofNat 4 note.pcl
              oct := BitVec.ofNat 4 note.oct
              M := BitVec.ofInt 16 (2 * ((x.R.toNat % 256 : Nat) : Int) - 255) } with
          result := BitVec.ofNat 32 (256 * note.pcl + 4096 * note.oct + 65536 * (note.S % 65536).toNat) } }

/-- With PULSE_K <= 65535 (R9): env(d) = 65535 for d <= PULSE_HOLD; from the hold on env(d+1) = floor(env(d) *
PULSE_K / 65536), strictly less than env(d) until it is 0; at the latest 65535 units after the hold it is 0 for
ever. (R223, R341.) -/
def Obligations.EnvelopeDecaysToZero : Prop :=
    ∀ c : Config, c.pulseK ≤ 65535 → ∀ d : Nat,
      (d ≤ c.pulseHold → env c d = 65535) ∧
      (c.pulseHold ≤ d → env c (d + 1) = env c d * c.pulseK / 65536 ∧ (env c (d + 1) < env c d ∨ env c d = 0)) ∧
      (c.pulseHold + 65535 ≤ d → env c d = 0)

/-- The next state of PTRIG differs in act and ptime of its channel and in RESULT only; RESULT is 0, and the pulse
level of the channel at the same time is 65535. (R220, R221, R224.) -/
def Obligations.PtrigStartsAFullPulse : Prop :=
    ∀ (s : State) (c : Channel) (now : Time),
      ∃ t : State, exec (.ptrig c now) s = .next t ∧
        t = { s with pnsc :=
          { s.pnsc.setChan c { s.pnsc.chan c with act := true, ptime := now } with result := 0 } } ∧
        penv t.cfg t.pnsc c now = 65535

/-- For every instruction and state: if act[c] was 1 it is 1 afterwards; and unless the instruction is PTRIG or EMIT
on the channel or a TICK, act[c] and ptime[c] are unchanged. (R25, R31, R221.) -/
def Obligations.ActiveFlagIsNeverCleared : Prop :=
    ∀ (i : Instr) (s t : State) (c : Channel), exec i s = .next t →
      ((s.pnsc.chan c).act = true → (t.pnsc.chan c).act = true) ∧
      (triggersPulse c i = false →
        (t.pnsc.chan c).act = (s.pnsc.chan c).act ∧ (t.pnsc.chan c).ptime = (s.pnsc.chan c).ptime)

/-- RESOLVE answers the next state that differs in len, len_idx, div, scale_idx, RESULT and, on a length change,
len_time and disp only. Length: LENGTHS at kx div 32. Divisor: DIVISORS at clamp(ky + mod - MOD_BIAS, 0, 255)
div 32. Scale: SCALE_OF_SEL at sel, 0 when sel = 3 or the entry is outside 0..6. RESULT = 64 lenchg + 256 len +
8192 div + 2^18 scale_idx + 2^21 km. (R247, R250.) -/
def Obligations.ResolveSelectsFromTheTables : Prop :=
    ∀ (s : State) (sel : BitVec 2) (mod kx ky km : Byte) (now : Time),
      let L := lengths.getD (kx.toNat / 32) 16
      let cmb : Int := max 0 (min 255 ((ky.toNat : Int) + mod.toNat - s.cfg.modBias))
      let D := divisors.getD (cmb.toNat / 32) 1
      let entry : Int := if sel.toNat ≤ 2 then s.cfg.scaleOfSel.getD sel.toNat 0 else 0
      let si := if 0 ≤ entry ∧ entry ≤ 6 then entry.toNat else 0
      let lenchg := decide (L ≠ s.pnsc.len.toNat)
      exec (.resolve sel mod kx ky km now) s = .next { s with pnsc := { s.pnsc with
        len := BitVec.ofNat 5 L
        lenIdx := BitVec.ofNat 3 (kx.toNat / 32)
        div := BitVec.ofNat 5 D
        scaleIdx := BitVec.ofNat 3 si
        lenTime := if lenchg then now else s.pnsc.lenTime
        disp := lenchg || s.pnsc.disp
        result := BitVec.ofNat 32
          (64 * bitNat lenchg + 256 * L + 8192 * D + 2 ^ 18 * si + 2 ^ 21 * km.toNat) } }

/-- For every state and every operand, TICK answers a next state whose registers are those reached by RESOLVE,
CLKREC, TAPTMP (unplugged; else prev_sel is written alone), and on a trigger SRSTEP and EMIT on channel 1,
DIVTICK, and if it signals SRSTEP and EMIT on channel 2, then DISPLAY, each reading its triggers from the RESULT
of the ones before it. RESULT collects their flags, with len, div, scale_idx and the probability code as
payload. The LEDs agree too, but under an open steady-state display with the window closed: there they are what
that open function answers for the registers after phase (c), with disp = 0 and the RESULT from before the TICK,
at the time of the TICK. That this function sees the new disp and the old RESULT is the model's reading
(assumption log 18), its form an opaque function (assumption log 3). (R260, R261, R262, R263, R266, R271, R275.) -/
def Obligations.TickEqualsComposedUnitCommands : Prop :=
    ∀ (s : State) (sel : BitVec 2) (clk mod kx ky km : Byte) (now : Time) (r1 r2 : Draw),
      let u := composedTick s.cfg sel clk mod kx ky km now r1 r2 s.pnsc
      ∃ t : State, exec (.tick sel clk mod kx ky km now r1 r2) s = .next t ∧
        t = { s with pnsc := { u.pnsc with
          led := t.pnsc.led
          result := BitVec.ofNat 32
            (bitNat u.trig + 2 * bitNat u.plugged + 4 * bitNat u.trig + 8 * bitNat u.adv2 + 16 * bitNat u.tapedge
              + 32 * bitNat u.tapacc + 64 * bitNat u.lenchg + 128 * bitNat u.dispwin
              + 256 * u.pnsc.len.toNat + 8192 * u.pnsc.div.toNat + 2 ^ 18 * u.pnsc.scaleIdx.toNat
              + 2 ^ 21 * km.toNat) } } ∧
        (s.cfg.steady = .reference ∨ u.dispwin = true → t.pnsc.led = u.pnsc.led) ∧
        (u.dispwin = false → ∀ id : Nat, s.cfg.steady = .other id →
          t.pnsc.led = Config.steadyOther id { u.advanced with disp := false, result := s.pnsc.result } now)

/-- If the clock sample is plugged, TICK answers a next state with last_tap, last_trig and interval unchanged,
prev_sel the selector, plugged reported, and no tap edge and no acceptance reported. If it is not, clk_state
becomes UNPLUGGED, prev_sel is the selector too, and plugged is not reported. (R262, R266, R332.) -/
def Obligations.PluggedTickLeavesTapTempo : Prop :=
    ∀ (s : State) (sel : BitVec 2) (clk mod kx ky km : Byte) (now : Time) (r1 r2 : Draw),
      ∃ t : State, exec (.tick sel clk mod kx ky km now r1 r2) s = .next t ∧ t.pnsc.prevSel = sel ∧ t.pnsc.clkLast = clk ∧
        t.pnsc.result.getLsbD 1 = plugged s.cfg clk ∧
        (plugged s.cfg clk = true →
          t.pnsc.lastTap = s.pnsc.lastTap ∧ t.pnsc.lastTrig = s.pnsc.lastTrig ∧ t.pnsc.interval = s.pnsc.interval ∧
          t.pnsc.result.getLsbD 4 = false ∧ t.pnsc.result.getLsbD 5 = false) ∧
        (plugged s.cfg clk = false → t.pnsc.clkState = .unplugged)

/-- The trigger flag of a TICK is that of clock recovery when the sample is plugged and that of the estimator, on
the tap state before the tick, when it is not; clock recovery never fires on an unplugged sample. adv1 equals
the trigger flag, and adv2 implies it. (R264, R266.) -/
def Obligations.OneTriggerSourcePerTick : Prop :=
    ∀ (s : State) (sel : BitVec 2) (clk mod kx ky km : Byte) (now : Time) (r1 r2 : Draw),
      ((clockStep s.cfg s.pnsc.clkState clk).2 = true → plugged s.cfg clk = true) ∧
      ∃ t : State, exec (.tick sel clk mod kx ky km now r1 r2) s = .next t ∧
        t.pnsc.result.getLsbD 0 =
          (if plugged s.cfg clk then (clockStep s.cfg s.pnsc.clkState clk).2 else (tap s.cfg sel now s.pnsc).1.trig) ∧
        t.pnsc.result.getLsbD 2 = t.pnsc.result.getLsbD 0 ∧
        (t.pnsc.result.getLsbD 3 = true → t.pnsc.result.getLsbD 0 = true)

/-- If a TICK reports no trigger, both channels (registers, outputs, pulse states) and div_cnt are unchanged and it
reports no advance; if it reports no advance of channel 2, channel 2 is unchanged. (R267, R263.) -/
def Obligations.TickWithoutTriggerKeepsTheChannels : Prop :=
    ∀ (s t : State) (sel : BitVec 2) (clk mod kx ky km : Byte) (now : Time) (r1 r2 : Draw), exec (.tick sel clk mod kx ky km now r1 r2) s = .next t →
      (t.pnsc.result.getLsbD 0 = false →
        t.pnsc.ch1 = s.pnsc.ch1 ∧ t.pnsc.ch2 = s.pnsc.ch2 ∧ t.pnsc.divCnt = s.pnsc.divCnt ∧
        t.pnsc.result.getLsbD 2 = false ∧ t.pnsc.result.getLsbD 3 = false) ∧
      (t.pnsc.result.getLsbD 3 = false → t.pnsc.ch2 = s.pnsc.ch2)

/-- If a TICK reports no trigger, it gives the same state for all other draws r1 and r2; if it reports no advance of
channel 2, it gives the same state for every other r2. (R265, R327.) -/
def Obligations.UnusedDrawsDoNotMatter : Prop :=
    ∀ (s t : State) (sel : BitVec 2) (clk mod kx ky km : Byte) (now : Time) (r1 r2 : Draw) (q1 q2 : Draw), exec (.tick sel clk mod kx ky km now r1 r2) s = .next t →
      (t.pnsc.result.getLsbD 0 = false → exec (.tick sel clk mod kx ky km now q1 q2) s = .next t) ∧
      (t.pnsc.result.getLsbD 3 = false → exec (.tick sel clk mod kx ky km now r1 q2) s = .next t)

/-- The window is open when disp = 1 and less than 1500 units have passed since len_time. DISPLAY answers the next
state that differs in disp (the window), the LEDs and RESULT (128 if open, else 0) only. Open: LED j is 255 if
bit j of LENPAT[len_idx] is 1, else 0. Closed, reference display: pulse level div 256 and the two newest bits of
each channel. Closed, another display: what that open function of the state and the time answers (an opaque
function, assumption log 3) for the registers with disp = 0 and the RESULT from before the command; that it sees
these is the model's reading (assumption log 18). (R270, R271, R272, R273, R274, R275.) -/
def Obligations.DisplayShowsPatternOrSteady : Prop :=
    ∀ (s : State) (now : Time),
      let win := s.pnsc.disp && decide (elapsed now s.pnsc.lenTime < 1500)
      let pat := s.cfg.lenPat.getD s.pnsc.lenIdx.toNat 0
      let lit : Bool → BitVec 8 := fun b => if b then 255 else 0
      ∃ led : Leds,
        exec (.display now) s = .next { s with pnsc := { s.pnsc with
          disp := win
          led := led
          result := BitVec.ofNat 32 (128 * bitNat win) } } ∧
        (win = true → led =
          { led0 := lit (pat.getLsbD 0), led1 := lit (pat.getLsbD 1), led2 := lit (pat.getLsbD 2),
            led3 := lit (pat.getLsbD 3), led4 := lit (pat.getLsbD 4), led5 := lit (pat.getLsbD 5) }) ∧
        (win = false → s.cfg.steady = .reference → led =
          { led0 := BitVec.ofNat 8 (penv s.cfg s.pnsc .ch1 now / 256)
            led1 := lit (s.pnsc.ch1.R.getLsbD 0), led2 := lit (s.pnsc.ch1.R.getLsbD 1)
            led3 := BitVec.ofNat 8 (penv s.cfg s.pnsc .ch2 now / 256)
            led4 := lit (s.pnsc.ch2.R.getLsbD 0), led5 := lit (s.pnsc.ch2.R.getLsbD 1) }) ∧
        (win = false → ∀ id : Nat, s.cfg.steady = .other id →
          led = Config.steadyOther id { s.pnsc with disp := false } now)

/-- NOP and the opcodes 0xB to 0xF answer the state unchanged, RESULT included; so does every command word whose low
four bits are 0 or 11 to 15. (R280.) -/
def Obligations.NopAndReservedDoNothing : Prop :=
    ∀ s : State,
      exec .nop s = .next s ∧ exec .reservedB s = .next s ∧ exec .reservedC s = .next s ∧
      exec .reservedD s = .next s ∧ exec .reservedE s = .next s ∧ exec .reservedF s = .next s ∧
      ∀ w : CmdWord, w.toNat % 16 = 0 ∨ 11 ≤ w.toNat % 16 → exec (decodeCommand w) s = .next s

/-- Each of these reads answers a next state that differs only in the returned word, which is the register's value
with zeros above it; LENTIME returns a free value while disp = 0 (R49 leaves it unspecified; the free value is
the model's form for it, assumption log 6). R42 and R47 leave CLKLAST before the first clock recovery and PTIME
while act = 0 unspecified: that a read there returns a value the state holds is the model's choice (assumption
log 4). (R34, R40, R42, R43, R47, R49.) -/
def Obligations.ReadsOfPlainRegisters : Prop :=
    ∀ (s : State) (t : Time),
      exec (.rdResult t) s = .next { s with rdData := BitVec.ofNat 32 s.pnsc.result.toNat } ∧
      exec (.rdClklast t) s = .next { s with rdData := BitVec.ofNat 32 s.pnsc.clkLast.toNat } ∧
      exec (.rdReg1 t) s = .next { s with rdData := BitVec.ofNat 32 s.pnsc.ch1.R.toNat } ∧
      exec (.rdReg2 t) s = .next { s with rdData := BitVec.ofNat 32 s.pnsc.ch2.R.toNat } ∧
      exec (.rdPtime1 t) s = .next { s with rdData := BitVec.ofNat 32 s.pnsc.ch1.ptime.toNat } ∧
      exec (.rdPtime2 t) s = .next { s with rdData := BitVec.ofNat 32 s.pnsc.ch2.ptime.toNat } ∧
      exec (.rdTapint t) s = .next { s with rdData := BitVec.ofNat 32 s.pnsc.interval.toNat } ∧
      exec (.rdTaplast t) s = .next { s with rdData := BitVec.ofNat 32 s.pnsc.lastTap.toNat } ∧
      exec (.rdTriglast t) s = .next { s with rdData := BitVec.ofNat 32 s.pnsc.lastTrig.toNat } ∧
      exec (.rdLentime t) s = .next { s with rdData := BitVec.ofNat 32 (if s.pnsc.disp then s.pnsc.lenTime else Config.unspecifiedLenTime s.pnsc).toNat }

/-- A read of STATUS returns clk_state (0, 1, 2) + 4 act[0] + 8 act[1] + 16 disp + 32 prev_sel + 2^8 len + 2^13 div
+ 2^18 div_cnt + 2^22 scale_idx + 2^25 len_idx, and changes nothing else. (R41, R26.) -/
def Obligations.StatusReadLayout : Prop :=
    clkCode .unplugged = 0 ∧ clkCode .low = 1 ∧ clkCode .high = 2 ∧
    ∀ (s : State) (t : Time),
      exec (.rdStatus t) s = .next { s with
        rdData := BitVec.ofNat 32 ((clkCode s.pnsc.clkState).toNat + 4 * bitNat s.pnsc.ch1.act + 8 * bitNat s.pnsc.ch2.act
          + 16 * bitNat s.pnsc.disp + 32 * s.pnsc.prevSel.toNat + 2 ^ 8 * s.pnsc.len.toNat
          + 2 ^ 13 * s.pnsc.div.toNat + 2 ^ 18 * s.pnsc.divCnt.toNat + 2 ^ 22 * s.pnsc.scaleIdx.toNat
          + 2 ^ 25 * s.pnsc.lenIdx.toNat) }

/-- PITCH returns S + 2^16 pc + 2^20 oct, MOD returns M (both signed values as their 16-bit codes), LEDA and LEDB
return three brightness codes each, the first in the low byte. Nothing else changes. R44 and R45 leave PITCH and
MOD of a channel unspecified until it has emitted: that a read there returns a value the state holds is the
model's choice (assumption log 4). (R44, R45, R48.) -/
def Obligations.PitchModAndLedReadLayout : Prop :=
    ∀ (s : State) (t : Time),
      exec (.rdPitch1 t) s = .next { s with
        rdData := BitVec.ofNat 32 (s.pnsc.ch1.S.toNat + 2 ^ 16 * s.pnsc.ch1.pc.toNat + 2 ^ 20 * s.pnsc.ch1.oct.toNat) } ∧
      exec (.rdPitch2 t) s = .next { s with
        rdData := BitVec.ofNat 32 (s.pnsc.ch2.S.toNat + 2 ^ 16 * s.pnsc.ch2.pc.toNat + 2 ^ 20 * s.pnsc.ch2.oct.toNat) } ∧
      exec (.rdMod1 t) s = .next { s with rdData := BitVec.ofNat 32 s.pnsc.ch1.M.toNat } ∧
      exec (.rdMod2 t) s = .next { s with rdData := BitVec.ofNat 32 s.pnsc.ch2.M.toNat } ∧
      exec (.rdLeda t) s = .next { s with
        rdData := BitVec.ofNat 32 (s.pnsc.led.led0.toNat + 2 ^ 8 * s.pnsc.led.led1.toNat + 2 ^ 16 * s.pnsc.led.led2.toNat) } ∧
      exec (.rdLedb t) s = .next { s with
        rdData := BitVec.ofNat 32 (s.pnsc.led.led3.toNat + 2 ^ 8 * s.pnsc.led.led4.toNat + 2 ^ 16 * s.pnsc.led.led5.toNat) }

/-- A read of PULSE1 or PULSE2 at time t answers a next state that differs only in the returned word: 0 while act =
0, else env of the time elapsed since ptime (modulo 2^32). The level fits sixteen bits when PULSE_K <= 65535
(R9). (R46, R224.) -/
def Obligations.PulseReadFollowsTheEnvelope : Prop :=
    ∀ (s : State) (t : Time), s.cfg.pulseK ≤ 65535 →
      exec (.rdPulse1 t) s = .next { s with
        rdData := BitVec.ofNat 32 (if s.pnsc.ch1.act then env s.cfg (elapsed t s.pnsc.ch1.ptime) else 0) } ∧
      exec (.rdPulse2 t) s = .next { s with
        rdData := BitVec.ofNat 32 (if s.pnsc.ch2.act then env s.cfg (elapsed t s.pnsc.ch2.ptime) else 0) } ∧
      ∀ d : Nat, env s.cfg d ≤ 65535

/-- Each of the thirteen reads at addresses 0x13 to 0x1F answers a next state that differs only in the returned
word, which is 0; so does every read of an address from 0x13 on. (R40, R69.) -/
def Obligations.ReservedReadsReturnZero : Prop :=
    ∀ (s : State) (t : Time),
      exec (.rdReserved13 t) s = .next { s with rdData := 0 } ∧
      exec (.rdReserved14 t) s = .next { s with rdData := 0 } ∧
      exec (.rdReserved15 t) s = .next { s with rdData := 0 } ∧
      exec (.rdReserved16 t) s = .next { s with rdData := 0 } ∧
      exec (.rdReserved17 t) s = .next { s with rdData := 0 } ∧
      exec (.rdReserved18 t) s = .next { s with rdData := 0 } ∧
      exec (.rdReserved19 t) s = .next { s with rdData := 0 } ∧
      exec (.rdReserved1A t) s = .next { s with rdData := 0 } ∧
      exec (.rdReserved1B t) s = .next { s with rdData := 0 } ∧
      exec (.rdReserved1C t) s = .next { s with rdData := 0 } ∧
      exec (.rdReserved1D t) s = .next { s with rdData := 0 } ∧
      exec (.rdReserved1E t) s = .next { s with rdData := 0 } ∧
      exec (.rdReserved1F t) s = .next { s with rdData := 0 } ∧
      ∀ a : ReadAddr, 0x13 ≤ a.toNat → exec (decodeRead a t) s = .next { s with rdData := 0 }

/-- Every read answers a next state in which only the returned word can differ; and outside addresses 0x09 and 0x0A
the answer does not depend on the time presented. Where the spec leaves the word unspecified (LENTIME while disp
= 0, R49; CLKLAST, PITCH, MOD and PTIME before they are written, R42, R44, R45, R47) this agreement of two reads
is the model's choice (assumption logs 6 and 4). (R40, R68, R46.) -/
def Obligations.ReadsChangeNoRegister : Prop :=
    ∀ (s : State) (a : ReadAddr) (t t' : Time),
      (∃ w : ReadWord, exec (decode (.read a t)) s = .next { s with rdData := w }) ∧
      (a ≠ 0x09 → a ≠ 0x0A → exec (decode (.read a t)) s = exec (decode (.read a t')) s)

/-- Any instruction other than SRSTEP on channel c and TICK leaves R[c] unchanged. (R22.) -/
def Obligations.RegistersAreWrittenOnlyByTheStep : Prop :=
    ∀ (i : Instr) (s t : State) (c : Channel), exec i s = .next t → stepsRegister c i = false →
      (t.pnsc.chan c).R = (s.pnsc.chan c).R

/-- Any instruction other than EMIT on channel c and TICK leaves S, pc, oct and M of the channel unchanged; and
whenever an instruction changes one of them, act[c] is 1 and ptime[c] is the time now of that instruction
afterwards. (R32, R337.) -/
def Obligations.OutputsAreWrittenOnlyByEmit : Prop :=
    ∀ (i : Instr) (s t : State) (c : Channel), exec i s = .next t →
      let x := s.pnsc.chan c
      let y := t.pnsc.chan c
      (emitsOn c i = false → y.S = x.S ∧ y.pc = x.pc ∧ y.oct = x.oct ∧ y.M = x.M) ∧
      (y.S ≠ x.S ∨ y.pc ≠ x.pc ∨ y.oct ≠ x.oct ∨ y.M ≠ x.M →
        y.act = true ∧ commandTime i = some y.ptime)

/-- Any instruction other than CLKREC and TICK leaves clk_state and clk_last unchanged; any other than TAPTMP and
TICK leaves last_tap, last_trig, interval and prev_sel unchanged. (R26, R27, R28.) -/
def Obligations.ClockAndTapStateHaveTheirWriters : Prop :=
    ∀ (i : Instr) (s t : State), exec i s = .next t →
      (runsClockRecovery i = false → t.pnsc.clkState = s.pnsc.clkState ∧ t.pnsc.clkLast = s.pnsc.clkLast) ∧
      (runsTapTempo i = false →
        t.pnsc.lastTap = s.pnsc.lastTap ∧ t.pnsc.lastTrig = s.pnsc.lastTrig ∧ t.pnsc.interval = s.pnsc.interval ∧
        t.pnsc.prevSel = s.pnsc.prevSel)

/-- Any instruction other than RESOLVE and TICK leaves len, len_idx, div, scale_idx and len_time unchanged and does
not set disp; other than DIVTICK and TICK leaves div_cnt; other than DISPLAY and TICK leaves the LEDs and does
not clear disp. (R29, R30, R33, R35.) -/
def Obligations.SelectionDividerAndDisplayHaveTheirWriters : Prop :=
    ∀ (i : Instr) (s t : State), exec i s = .next t →
      (runsResolve i = false →
        t.pnsc.len = s.pnsc.len ∧ t.pnsc.lenIdx = s.pnsc.lenIdx ∧ t.pnsc.div = s.pnsc.div ∧
        t.pnsc.scaleIdx = s.pnsc.scaleIdx ∧ t.pnsc.lenTime = s.pnsc.lenTime ∧
        (t.pnsc.disp = true → s.pnsc.disp = true)) ∧
      (runsDivider i = false → t.pnsc.divCnt = s.pnsc.divCnt) ∧
      (runsDisplay i = false → t.pnsc.led = s.pnsc.led ∧ (s.pnsc.disp = true → t.pnsc.disp = true))

/-- For a command other than NOP and the reserved opcodes, the RESULT after it does not depend on the RESULT before
it; every other instruction leaves RESULT unchanged. (R34, R338.) -/
def Obligations.ResultIsOverwrittenWhole : Prop :=
    ∀ (i : Instr) (s t : State), exec i s = .next t →
      (writesResult i = true → ∀ r : BitVec 32,
        ∃ u : State, exec i { s with pnsc := { s.pnsc with result := r } } = .next u ∧ u.pnsc.result = t.pnsc.result) ∧
      (writesResult i = false → t.pnsc.result = s.pnsc.result)

/-- Every instruction leaves the configuration and the inputs not yet presented unchanged; no step changes the
configuration. (The configuration and the inputs are fields of the model, assumption logs 1 and 5; that they
stay at a reset event is its choice, assumption log 17.) (R36, R9.) -/
def Obligations.StepsKeepTheConfiguration : Prop :=
    (∀ (i : Instr) (s t : State), exec i s = .next t → t.cfg = s.cfg ∧ t.inputs = s.inputs) ∧
    ∀ s t : State, step s = .next t → t.cfg = s.cfg ∧ t.inputs = s.inputs.tail

/-- Under a configuration that meets R9, after any reset event: a TICK whose sample is unplugged and whose selector
is TAP_POS answers a next state that reports no tap edge and no acceptance, and a trigger exactly when more than
TAP_INTERVAL_RESET units have passed since now_rst. (R316, R145.) -/
def Obligations.FirstFreeRunningTriggerAfterReset : Prop :=
    ∀ (s : State) (r : ResetInputs) (clk mod kx ky km : Byte) (now : Time) (r1 r2 : Draw),
      s.cfg.wellFormed = true → plugged s.cfg clk = false →
      ∃ t : State,
        exec (.tick (BitVec.ofNat 2 s.cfg.tapPos) clk mod kx ky km now r1 r2) (resetEvent r s) = .next t ∧
        t.pnsc.result.getLsbD 0 = decide (s.cfg.tapIntervalReset < elapsed now r.nowRst) ∧
        t.pnsc.result.getLsbD 4 = false ∧ t.pnsc.result.getLsbD 5 = false

/-- TICK answers a next state in which act and ptime of channel 1 are 1 and now if it reports adv1, and as before if
not; and the same for channel 2 with adv2. (R222, R221.) -/
def Obligations.AnAdvanceTriggersThePulse : Prop :=
    ∀ (s : State) (sel : BitVec 2) (clk mod kx ky km : Byte) (now : Time) (r1 r2 : Draw),
      ∃ t : State, exec (.tick sel clk mod kx ky km now r1 r2) s = .next t ∧
        (if t.pnsc.result.getLsbD 2 then t.pnsc.ch1.act = true ∧ t.pnsc.ch1.ptime = now
         else t.pnsc.ch1.act = s.pnsc.ch1.act ∧ t.pnsc.ch1.ptime = s.pnsc.ch1.ptime) ∧
        (if t.pnsc.result.getLsbD 3 then t.pnsc.ch2.act = true ∧ t.pnsc.ch2.ptime = now
         else t.pnsc.ch2.act = s.pnsc.ch2.act ∧ t.pnsc.ch2.ptime = s.pnsc.ch2.ptime)

/-- A run of TAPTMP commands that all have the selector at TAP_POS, at any times, from any state: all complete, and
every one after the first reports no tap edge, accepts no gap, and leaves last_tap as the first one left it.
(R150, R141.) -/
def Obligations.HeldSelectorMakesOneEdgeOnly : Prop :=
    ∀ (s : State) (tapSel : BitVec 2) (a : Time) (times : List Time), tapSel.toNat = s.cfg.tapPos →
      ∃ t : State, exec (.taptmp tapSel a) s = .next t ∧
        (runInstrs (times.map (Instr.taptmp tapSel)) t).length = times.length ∧
        ∀ u ∈ runInstrs (times.map (Instr.taptmp tapSel)) t,
          u.pnsc.result.getLsbD 4 = false ∧ u.pnsc.result.getLsbD 5 = false ∧ u.pnsc.lastTap = t.pnsc.lastTap

/-- If a DISPLAY reports no window, then after any run of instructions without RESOLVE and TICK disp is 0 in every
state, and a DISPLAY there reports no window at any time, a wrapped one too. Every instruction of the run
completes. (R273, R35.) -/
def Obligations.AnExpiredWindowStaysClosed : Prop :=
    ∀ (s t : State) (now : Time) (is : List Instr), exec (.display now) s = .next t → t.pnsc.result.getLsbD 7 = false →
      (∀ i ∈ is, runsResolve i = false) →
      (runInstrs is t).length = is.length ∧
      ∀ u ∈ t :: runInstrs is t, u.pnsc.disp = false ∧
        ∀ later : Time, ∃ v : State, exec (.display later) u = .next v ∧ v.pnsc.result.getLsbD 7 = false
end

