-- ==== Sys2Proof/Laws/State.lean ====
section
/-! SUPPORT. One lemma per field per setter of the registers, and per field of the state for each of its updates:
all of them true by unfolding, so that no later proof unfolds a record update. -/

namespace Sys2Proof.Machine

variable (p : Pnsc) (s : State)

/-! `setClock` -/

@[simp] theorem Pnsc.setClock_ch1 (st : ClkState) (v : Byte) : (p.setClock st v).ch1 = p.ch1 := rfl
@[simp] theorem Pnsc.setClock_ch2 (st : ClkState) (v : Byte) : (p.setClock st v).ch2 = p.ch2 := rfl
@[simp] theorem Pnsc.setClock_clkState (st : ClkState) (v : Byte) : (p.setClock st v).clkState = st := rfl
@[simp] theorem Pnsc.setClock_clkLast (st : ClkState) (v : Byte) : (p.setClock st v).clkLast = v := rfl
@[simp] theorem Pnsc.setClock_lastTap (st : ClkState) (v : Byte) : (p.setClock st v).lastTap = p.lastTap := rfl
@[simp] theorem Pnsc.setClock_lastTrig (st : ClkState) (v : Byte) : (p.setClock st v).lastTrig = p.lastTrig := rfl
@[simp] theorem Pnsc.setClock_interval (st : ClkState) (v : Byte) : (p.setClock st v).interval = p.interval := rfl
@[simp] theorem Pnsc.setClock_prevSel (st : ClkState) (v : Byte) : (p.setClock st v).prevSel = p.prevSel := rfl
@[simp] theorem Pnsc.setClock_len (st : ClkState) (v : Byte) : (p.setClock st v).len = p.len := rfl
@[simp] theorem Pnsc.setClock_lenIdx (st : ClkState) (v : Byte) : (p.setClock st v).lenIdx = p.lenIdx := rfl
@[simp] theorem Pnsc.setClock_div (st : ClkState) (v : Byte) : (p.setClock st v).div = p.div := rfl
@[simp] theorem Pnsc.setClock_scaleIdx (st : ClkState) (v : Byte) : (p.setClock st v).scaleIdx = p.scaleIdx := rfl
@[simp] theorem Pnsc.setClock_divCnt (st : ClkState) (v : Byte) : (p.setClock st v).divCnt = p.divCnt := rfl
@[simp] theorem Pnsc.setClock_led (st : ClkState) (v : Byte) : (p.setClock st v).led = p.led := rfl
@[simp] theorem Pnsc.setClock_result (st : ClkState) (v : Byte) : (p.setClock st v).result = p.result := rfl
@[simp] theorem Pnsc.setClock_disp (st : ClkState) (v : Byte) : (p.setClock st v).disp = p.disp := rfl
@[simp] theorem Pnsc.setClock_lenTime (st : ClkState) (v : Byte) : (p.setClock st v).lenTime = p.lenTime := rfl
@[simp] theorem Pnsc.chan_setClock (st : ClkState) (v : Byte) (c : Channel) : (p.setClock st v).chan c = p.chan c := by cases c <;> rfl

/-! `setTap` -/

@[simp] theorem Pnsc.setTap_ch1 (iv : BitVec 11) (lt lg : Time) : (p.setTap iv lt lg).ch1 = p.ch1 := rfl
@[simp] theorem Pnsc.setTap_ch2 (iv : BitVec 11) (lt lg : Time) : (p.setTap iv lt lg).ch2 = p.ch2 := rfl
@[simp] theorem Pnsc.setTap_clkState (iv : BitVec 11) (lt lg : Time) : (p.setTap iv lt lg).clkState = p.clkState := rfl
@[simp] theorem Pnsc.setTap_clkLast (iv : BitVec 11) (lt lg : Time) : (p.setTap iv lt lg).clkLast = p.clkLast := rfl
@[simp] theorem Pnsc.setTap_lastTap (iv : BitVec 11) (lt lg : Time) : (p.setTap iv lt lg).lastTap = lt := rfl
@[simp] theorem Pnsc.setTap_lastTrig (iv : BitVec 11) (lt lg : Time) : (p.setTap iv lt lg).lastTrig = lg := rfl
@[simp] theorem Pnsc.setTap_interval (iv : BitVec 11) (lt lg : Time) : (p.setTap iv lt lg).interval = iv := rfl
@[simp] theorem Pnsc.setTap_prevSel (iv : BitVec 11) (lt lg : Time) : (p.setTap iv lt lg).prevSel = p.prevSel := rfl
@[simp] theorem Pnsc.setTap_len (iv : BitVec 11) (lt lg : Time) : (p.setTap iv lt lg).len = p.len := rfl
@[simp] theorem Pnsc.setTap_lenIdx (iv : BitVec 11) (lt lg : Time) : (p.setTap iv lt lg).lenIdx = p.lenIdx := rfl
@[simp] theorem Pnsc.setTap_div (iv : BitVec 11) (lt lg : Time) : (p.setTap iv lt lg).div = p.div := rfl
@[simp] theorem Pnsc.setTap_scaleIdx (iv : BitVec 11) (lt lg : Time) : (p.setTap iv lt lg).scaleIdx = p.scaleIdx := rfl
@[simp] theorem Pnsc.setTap_divCnt (iv : BitVec 11) (lt lg : Time) : (p.setTap iv lt lg).divCnt = p.divCnt := rfl
@[simp] theorem Pnsc.setTap_led (iv : BitVec 11) (lt lg : Time) : (p.setTap iv lt lg).led = p.led := rfl
@[simp] theorem Pnsc.setTap_result (iv : BitVec 11) (lt lg : Time) : (p.setTap iv lt lg).result = p.result := rfl
@[simp] theorem Pnsc.setTap_disp (iv : BitVec 11) (lt lg : Time) : (p.setTap iv lt lg).disp = p.disp := rfl
@[simp] theorem Pnsc.setTap_lenTime (iv : BitVec 11) (lt lg : Time) : (p.setTap iv lt lg).lenTime = p.lenTime := rfl
@[simp] theorem Pnsc.chan_setTap (iv : BitVec 11) (lt lg : Time) (c : Channel) : (p.setTap iv lt lg).chan c = p.chan c := by cases c <;> rfl

/-! `setPrevSel` -/

@[simp] theorem Pnsc.setPrevSel_ch1 (sel : BitVec 2) : (p.setPrevSel sel).ch1 = p.ch1 := rfl
@[simp] theorem Pnsc.setPrevSel_ch2 (sel : BitVec 2) : (p.setPrevSel sel).ch2 = p.ch2 := rfl
@[simp] theorem Pnsc.setPrevSel_clkState (sel : BitVec 2) : (p.setPrevSel sel).clkState = p.clkState := rfl
@[simp] theorem Pnsc.setPrevSel_clkLast (sel : BitVec 2) : (p.setPrevSel sel).clkLast = p.clkLast := rfl
@[simp] theorem Pnsc.setPrevSel_lastTap (sel : BitVec 2) : (p.setPrevSel sel).lastTap = p.lastTap := rfl
@[simp] theorem Pnsc.setPrevSel_lastTrig (sel : BitVec 2) : (p.setPrevSel sel).lastTrig = p.lastTrig := rfl
@[simp] theorem Pnsc.setPrevSel_interval (sel : BitVec 2) : (p.setPrevSel sel).interval = p.interval := rfl
@[simp] theorem Pnsc.setPrevSel_prevSel (sel : BitVec 2) : (p.setPrevSel sel).prevSel = sel := rfl
@[simp] theorem Pnsc.setPrevSel_len (sel : BitVec 2) : (p.setPrevSel sel).len = p.len := rfl
@[simp] theorem Pnsc.setPrevSel_lenIdx (sel : BitVec 2) : (p.setPrevSel sel).lenIdx = p.lenIdx := rfl
@[simp] theorem Pnsc.setPrevSel_div (sel : BitVec 2) : (p.setPrevSel sel).div = p.div := rfl
@[simp] theorem Pnsc.setPrevSel_scaleIdx (sel : BitVec 2) : (p.setPrevSel sel).scaleIdx = p.scaleIdx := rfl
@[simp] theorem Pnsc.setPrevSel_divCnt (sel : BitVec 2) : (p.setPrevSel sel).divCnt = p.divCnt := rfl
@[simp] theorem Pnsc.setPrevSel_led (sel : BitVec 2) : (p.setPrevSel sel).led = p.led := rfl
@[simp] theorem Pnsc.setPrevSel_result (sel : BitVec 2) : (p.setPrevSel sel).result = p.result := rfl
@[simp] theorem Pnsc.setPrevSel_disp (sel : BitVec 2) : (p.setPrevSel sel).disp = p.disp := rfl
@[simp] theorem Pnsc.setPrevSel_lenTime (sel : BitVec 2) : (p.setPrevSel sel).lenTime = p.lenTime := rfl
@[simp] theorem Pnsc.chan_setPrevSel (sel : BitVec 2) (c : Channel) : (p.setPrevSel sel).chan c = p.chan c := by cases c <;> rfl

/-! `setSelection` -/

@[simp] theorem Pnsc.setSelection_ch1 (l : BitVec 5) (li : BitVec 3) (d : BitVec 5) (si : BitVec 3) : (p.setSelection l li d si).ch1 = p.ch1 := rfl
@[simp] theorem Pnsc.setSelection_ch2 (l : BitVec 5) (li : BitVec 3) (d : BitVec 5) (si : BitVec 3) : (p.setSelection l li d si).ch2 = p.ch2 := rfl
@[simp] theorem Pnsc.setSelection_clkState (l : BitVec 5) (li : BitVec 3) (d : BitVec 5) (si : BitVec 3) : (p.setSelection l li d si).clkState = p.clkState := rfl
@[simp] theorem Pnsc.setSelection_clkLast (l : BitVec 5) (li : BitVec 3) (d : BitVec 5) (si : BitVec 3) : (p.setSelection l li d si).clkLast = p.clkLast := rfl
@[simp] theorem Pnsc.setSelection_lastTap (l : BitVec 5) (li : BitVec 3) (d : BitVec 5) (si : BitVec 3) : (p.setSelection l li d si).lastTap = p.lastTap := rfl
@[simp] theorem Pnsc.setSelection_lastTrig (l : BitVec 5) (li : BitVec 3) (d : BitVec 5) (si : BitVec 3) : (p.setSelection l li d si).lastTrig = p.lastTrig := rfl
@[simp] theorem Pnsc.setSelection_interval (l : BitVec 5) (li : BitVec 3) (d : BitVec 5) (si : BitVec 3) : (p.setSelection l li d si).interval = p.interval := rfl
@[simp] theorem Pnsc.setSelection_prevSel (l : BitVec 5) (li : BitVec 3) (d : BitVec 5) (si : BitVec 3) : (p.setSelection l li d si).prevSel = p.prevSel := rfl
@[simp] theorem Pnsc.setSelection_len (l : BitVec 5) (li : BitVec 3) (d : BitVec 5) (si : BitVec 3) : (p.setSelection l li d si).len = l := rfl
@[simp] theorem Pnsc.setSelection_lenIdx (l : BitVec 5) (li : BitVec 3) (d : BitVec 5) (si : BitVec 3) : (p.setSelection l li d si).lenIdx = li := rfl
@[simp] theorem Pnsc.setSelection_div (l : BitVec 5) (li : BitVec 3) (d : BitVec 5) (si : BitVec 3) : (p.setSelection l li d si).div = d := rfl
@[simp] theorem Pnsc.setSelection_scaleIdx (l : BitVec 5) (li : BitVec 3) (d : BitVec 5) (si : BitVec 3) : (p.setSelection l li d si).scaleIdx = si := rfl
@[simp] theorem Pnsc.setSelection_divCnt (l : BitVec 5) (li : BitVec 3) (d : BitVec 5) (si : BitVec 3) : (p.setSelection l li d si).divCnt = p.divCnt := rfl
@[simp] theorem Pnsc.setSelection_led (l : BitVec 5) (li : BitVec 3) (d : BitVec 5) (si : BitVec 3) : (p.setSelection l li d si).led = p.led := rfl
@[simp] theorem Pnsc.setSelection_result (l : BitVec 5) (li : BitVec 3) (d : BitVec 5) (si : BitVec 3) : (p.setSelection l li d si).result = p.result := rfl
@[simp] theorem Pnsc.setSelection_disp (l : BitVec 5) (li : BitVec 3) (d : BitVec 5) (si : BitVec 3) : (p.setSelection l li d si).disp = p.disp := rfl
@[simp] theorem Pnsc.setSelection_lenTime (l : BitVec 5) (li : BitVec 3) (d : BitVec 5) (si : BitVec 3) : (p.setSelection l li d si).lenTime = p.lenTime := rfl
@[simp] theorem Pnsc.chan_setSelection (l : BitVec 5) (li : BitVec 3) (d : BitVec 5) (si : BitVec 3) (c : Channel) : (p.setSelection l li d si).chan c = p.chan c := by cases c <;> rfl

/-! `openWindow` -/

@[simp] theorem Pnsc.openWindow_ch1 (now : Time) : (p.openWindow now).ch1 = p.ch1 := rfl
@[simp] theorem Pnsc.openWindow_ch2 (now : Time) : (p.openWindow now).ch2 = p.ch2 := rfl
@[simp] theorem Pnsc.openWindow_clkState (now : Time) : (p.openWindow now).clkState = p.clkState := rfl
@[simp] theorem Pnsc.openWindow_clkLast (now : Time) : (p.openWindow now).clkLast = p.clkLast := rfl
@[simp] theorem Pnsc.openWindow_lastTap (now : Time) : (p.openWindow now).lastTap = p.lastTap := rfl
@[simp] theorem Pnsc.openWindow_lastTrig (now : Time) : (p.openWindow now).lastTrig = p.lastTrig := rfl
@[simp] theorem Pnsc.openWindow_interval (now : Time) : (p.openWindow now).interval = p.interval := rfl
@[simp] theorem Pnsc.openWindow_prevSel (now : Time) : (p.openWindow now).prevSel = p.prevSel := rfl
@[simp] theorem Pnsc.openWindow_len (now : Time) : (p.openWindow now).len = p.len := rfl
@[simp] theorem Pnsc.openWindow_lenIdx (now : Time) : (p.openWindow now).lenIdx = p.lenIdx := rfl
@[simp] theorem Pnsc.openWindow_div (now : Time) : (p.openWindow now).div = p.div := rfl
@[simp] theorem Pnsc.openWindow_scaleIdx (now : Time) : (p.openWindow now).scaleIdx = p.scaleIdx := rfl
@[simp] theorem Pnsc.openWindow_divCnt (now : Time) : (p.openWindow now).divCnt = p.divCnt := rfl
@[simp] theorem Pnsc.openWindow_led (now : Time) : (p.openWindow now).led = p.led := rfl
@[simp] theorem Pnsc.openWindow_result (now : Time) : (p.openWindow now).result = p.result := rfl
@[simp] theorem Pnsc.openWindow_disp (now : Time) : (p.openWindow now).disp = true := rfl
@[simp] theorem Pnsc.openWindow_lenTime (now : Time) : (p.openWindow now).lenTime = now := rfl
@[simp] theorem Pnsc.chan_openWindow (now : Time) (c : Channel) : (p.openWindow now).chan c = p.chan c := by cases c <;> rfl

/-! `setDivCnt` -/

@[simp] theorem Pnsc.setDivCnt_ch1 (n : BitVec 4) : (p.setDivCnt n).ch1 = p.ch1 := rfl
@[simp] theorem Pnsc.setDivCnt_ch2 (n : BitVec 4) : (p.setDivCnt n).ch2 = p.ch2 := rfl
@[simp] theorem Pnsc.setDivCnt_clkState (n : BitVec 4) : (p.setDivCnt n).clkState = p.clkState := rfl
@[simp] theorem Pnsc.setDivCnt_clkLast (n : BitVec 4) : (p.setDivCnt n).clkLast = p.clkLast := rfl
@[simp] theorem Pnsc.setDivCnt_lastTap (n : BitVec 4) : (p.setDivCnt n).lastTap = p.lastTap := rfl
@[simp] theorem Pnsc.setDivCnt_lastTrig (n : BitVec 4) : (p.setDivCnt n).lastTrig = p.lastTrig := rfl
@[simp] theorem Pnsc.setDivCnt_interval (n : BitVec 4) : (p.setDivCnt n).interval = p.interval := rfl
@[simp] theorem Pnsc.setDivCnt_prevSel (n : BitVec 4) : (p.setDivCnt n).prevSel = p.prevSel := rfl
@[simp] theorem Pnsc.setDivCnt_len (n : BitVec 4) : (p.setDivCnt n).len = p.len := rfl
@[simp] theorem Pnsc.setDivCnt_lenIdx (n : BitVec 4) : (p.setDivCnt n).lenIdx = p.lenIdx := rfl
@[simp] theorem Pnsc.setDivCnt_div (n : BitVec 4) : (p.setDivCnt n).div = p.div := rfl
@[simp] theorem Pnsc.setDivCnt_scaleIdx (n : BitVec 4) : (p.setDivCnt n).scaleIdx = p.scaleIdx := rfl
@[simp] theorem Pnsc.setDivCnt_divCnt (n : BitVec 4) : (p.setDivCnt n).divCnt = n := rfl
@[simp] theorem Pnsc.setDivCnt_led (n : BitVec 4) : (p.setDivCnt n).led = p.led := rfl
@[simp] theorem Pnsc.setDivCnt_result (n : BitVec 4) : (p.setDivCnt n).result = p.result := rfl
@[simp] theorem Pnsc.setDivCnt_disp (n : BitVec 4) : (p.setDivCnt n).disp = p.disp := rfl
@[simp] theorem Pnsc.setDivCnt_lenTime (n : BitVec 4) : (p.setDivCnt n).lenTime = p.lenTime := rfl
@[simp] theorem Pnsc.chan_setDivCnt (n : BitVec 4) (c : Channel) : (p.setDivCnt n).chan c = p.chan c := by cases c <;> rfl

/-! `setDisplay` -/

@[simp] theorem Pnsc.setDisplay_ch1 (d : Bool) (l : Leds) : (p.setDisplay d l).ch1 = p.ch1 := rfl
@[simp] theorem Pnsc.setDisplay_ch2 (d : Bool) (l : Leds) : (p.setDisplay d l).ch2 = p.ch2 := rfl
@[simp] theorem Pnsc.setDisplay_clkState (d : Bool) (l : Leds) : (p.setDisplay d l).clkState = p.clkState := rfl
@[simp] theorem Pnsc.setDisplay_clkLast (d : Bool) (l : Leds) : (p.setDisplay d l).clkLast = p.clkLast := rfl
@[simp] theorem Pnsc.setDisplay_lastTap (d : Bool) (l : Leds) : (p.setDisplay d l).lastTap = p.lastTap := rfl
@[simp] theorem Pnsc.setDisplay_lastTrig (d : Bool) (l : Leds) : (p.setDisplay d l).lastTrig = p.lastTrig := rfl
@[simp] theorem Pnsc.setDisplay_interval (d : Bool) (l : Leds) : (p.setDisplay d l).interval = p.interval := rfl
@[simp] theorem Pnsc.setDisplay_prevSel (d : Bool) (l : Leds) : (p.setDisplay d l).prevSel = p.prevSel := rfl
@[simp] theorem Pnsc.setDisplay_len (d : Bool) (l : Leds) : (p.setDisplay d l).len = p.len := rfl
@[simp] theorem Pnsc.setDisplay_lenIdx (d : Bool) (l : Leds) : (p.setDisplay d l).lenIdx = p.lenIdx := rfl
@[simp] theorem Pnsc.setDisplay_div (d : Bool) (l : Leds) : (p.setDisplay d l).div = p.div := rfl
@[simp] theorem Pnsc.setDisplay_scaleIdx (d : Bool) (l : Leds) : (p.setDisplay d l).scaleIdx = p.scaleIdx := rfl
@[simp] theorem Pnsc.setDisplay_divCnt (d : Bool) (l : Leds) : (p.setDisplay d l).divCnt = p.divCnt := rfl
@[simp] theorem Pnsc.setDisplay_led (d : Bool) (l : Leds) : (p.setDisplay d l).led = l := rfl
@[simp] theorem Pnsc.setDisplay_result (d : Bool) (l : Leds) : (p.setDisplay d l).result = p.result := rfl
@[simp] theorem Pnsc.setDisplay_disp (d : Bool) (l : Leds) : (p.setDisplay d l).disp = d := rfl
@[simp] theorem Pnsc.setDisplay_lenTime (d : Bool) (l : Leds) : (p.setDisplay d l).lenTime = p.lenTime := rfl
@[simp] theorem Pnsc.chan_setDisplay (d : Bool) (l : Leds) (c : Channel) : (p.setDisplay d l).chan c = p.chan c := by cases c <;> rfl

/-! `setResult` -/

@[simp] theorem Pnsc.setResult_ch1 (r : BitVec 32) : (p.setResult r).ch1 = p.ch1 := rfl
@[simp] theorem Pnsc.setResult_ch2 (r : BitVec 32) : (p.setResult r).ch2 = p.ch2 := rfl
@[simp] theorem Pnsc.setResult_clkState (r : BitVec 32) : (p.setResult r).clkState = p.clkState := rfl
@[simp] theorem Pnsc.setResult_clkLast (r : BitVec 32) : (p.setResult r).clkLast = p.clkLast := rfl
@[simp] theorem Pnsc.setResult_lastTap (r : BitVec 32) : (p.setResult r).lastTap = p.lastTap := rfl
@[simp] theorem Pnsc.setResult_lastTrig (r : BitVec 32) : (p.setResult r).lastTrig = p.lastTrig := rfl
@[simp] theorem Pnsc.setResult_interval (r : BitVec 32) : (p.setResult r).interval = p.interval := rfl
@[simp] theorem Pnsc.setResult_prevSel (r : BitVec 32) : (p.setResult r).prevSel = p.prevSel := rfl
@[simp] theorem Pnsc.setResult_len (r : BitVec 32) : (p.setResult r).len = p.len := rfl
@[simp] theorem Pnsc.setResult_lenIdx (r : BitVec 32) : (p.setResult r).lenIdx = p.lenIdx := rfl
@[simp] theorem Pnsc.setResult_div (r : BitVec 32) : (p.setResult r).div = p.div := rfl
@[simp] theorem Pnsc.setResult_scaleIdx (r : BitVec 32) : (p.setResult r).scaleIdx = p.scaleIdx := rfl
@[simp] theorem Pnsc.setResult_divCnt (r : BitVec 32) : (p.setResult r).divCnt = p.divCnt := rfl
@[simp] theorem Pnsc.setResult_led (r : BitVec 32) : (p.setResult r).led = p.led := rfl
@[simp] theorem Pnsc.setResult_result (r : BitVec 32) : (p.setResult r).result = r := rfl
@[simp] theorem Pnsc.setResult_disp (r : BitVec 32) : (p.setResult r).disp = p.disp := rfl
@[simp] theorem Pnsc.setResult_lenTime (r : BitVec 32) : (p.setResult r).lenTime = p.lenTime := rfl
@[simp] theorem Pnsc.chan_setResult (r : BitVec 32) (c : Channel) : (p.setResult r).chan c = p.chan c := by cases c <;> rfl

/-! `setChan` -/

@[simp] theorem Pnsc.setChan_clkState (c : Channel) (x : ChanState) : (p.setChan c x).clkState = p.clkState := by cases c <;> rfl
@[simp] theorem Pnsc.setChan_clkLast (c : Channel) (x : ChanState) : (p.setChan c x).clkLast = p.clkLast := by cases c <;> rfl
@[simp] theorem Pnsc.setChan_lastTap (c : Channel) (x : ChanState) : (p.setChan c x).lastTap = p.lastTap := by cases c <;> rfl
@[simp] theorem Pnsc.setChan_lastTrig (c : Channel) (x : ChanState) : (p.setChan c x).lastTrig = p.lastTrig := by cases c <;> rfl
@[simp] theorem Pnsc.setChan_interval (c : Channel) (x : ChanState) : (p.setChan c x).interval = p.interval := by cases c <;> rfl
@[simp] theorem Pnsc.setChan_prevSel (c : Channel) (x : ChanState) : (p.setChan c x).prevSel = p.prevSel := by cases c <;> rfl
@[simp] theorem Pnsc.setChan_len (c : Channel) (x : ChanState) : (p.setChan c x).len = p.len := by cases c <;> rfl
@[simp] theorem Pnsc.setChan_lenIdx (c : Channel) (x : ChanState) : (p.setChan c x).lenIdx = p.lenIdx := by cases c <;> rfl
@[simp] theorem Pnsc.setChan_div (c : Channel) (x : ChanState) : (p.setChan c x).div = p.div := by cases c <;> rfl
@[simp] theorem Pnsc.setChan_scaleIdx (c : Channel) (x : ChanState) : (p.setChan c x).scaleIdx = p.scaleIdx := by cases c <;> rfl
@[simp] theorem Pnsc.setChan_divCnt (c : Channel) (x : ChanState) : (p.setChan c x).divCnt = p.divCnt := by cases c <;> rfl
@[simp] theorem Pnsc.setChan_led (c : Channel) (x : ChanState) : (p.setChan c x).led = p.led := by cases c <;> rfl
@[simp] theorem Pnsc.setChan_result (c : Channel) (x : ChanState) : (p.setChan c x).result = p.result := by cases c <;> rfl
@[simp] theorem Pnsc.setChan_disp (c : Channel) (x : ChanState) : (p.setChan c x).disp = p.disp := by cases c <;> rfl
@[simp] theorem Pnsc.setChan_lenTime (c : Channel) (x : ChanState) : (p.setChan c x).lenTime = p.lenTime := by cases c <;> rfl

/-! `setR` -/

@[simp] theorem Pnsc.setR_clkState (c : Channel) (R : BitVec 16) : (p.setR c R).clkState = p.clkState := by cases c <;> rfl
@[simp] theorem Pnsc.setR_clkLast (c : Channel) (R : BitVec 16) : (p.setR c R).clkLast = p.clkLast := by cases c <;> rfl
@[simp] theorem Pnsc.setR_lastTap (c : Channel) (R : BitVec 16) : (p.setR c R).lastTap = p.lastTap := by cases c <;> rfl
@[simp] theorem Pnsc.setR_lastTrig (c : Channel) (R : BitVec 16) : (p.setR c R).lastTrig = p.lastTrig := by cases c <;> rfl
@[simp] theorem Pnsc.setR_interval (c : Channel) (R : BitVec 16) : (p.setR c R).interval = p.interval := by cases c <;> rfl
@[simp] theorem Pnsc.setR_prevSel (c : Channel) (R : BitVec 16) : (p.setR c R).prevSel = p.prevSel := by cases c <;> rfl
@[simp] theorem Pnsc.setR_len (c : Channel) (R : BitVec 16) : (p.setR c R).len = p.len := by cases c <;> rfl
@[simp] theorem Pnsc.setR_lenIdx (c : Channel) (R : BitVec 16) : (p.setR c R).lenIdx = p.lenIdx := by cases c <;> rfl
@[simp] theorem Pnsc.setR_div (c : Channel) (R : BitVec 16) : (p.setR c R).div = p.div := by cases c <;> rfl
@[simp] theorem Pnsc.setR_scaleIdx (c : Channel) (R : BitVec 16) : (p.setR c R).scaleIdx = p.scaleIdx := by cases c <;> rfl
@[simp] theorem Pnsc.setR_divCnt (c : Channel) (R : BitVec 16) : (p.setR c R).divCnt = p.divCnt := by cases c <;> rfl
@[simp] theorem Pnsc.setR_led (c : Channel) (R : BitVec 16) : (p.setR c R).led = p.led := by cases c <;> rfl
@[simp] theorem Pnsc.setR_result (c : Channel) (R : BitVec 16) : (p.setR c R).result = p.result := by cases c <;> rfl
@[simp] theorem Pnsc.setR_disp (c : Channel) (R : BitVec 16) : (p.setR c R).disp = p.disp := by cases c <;> rfl
@[simp] theorem Pnsc.setR_lenTime (c : Channel) (R : BitVec 16) : (p.setR c R).lenTime = p.lenTime := by cases c <;> rfl

@[simp] theorem Pnsc.chan_setChan_same (c : Channel) (x : ChanState) : (p.setChan c x).chan c = x := by
  cases c <;> rfl

theorem Pnsc.chan_setChan_other {c d : Channel} (h : d ≠ c) (x : ChanState) : (p.setChan c x).chan d = p.chan d := by
  cases c <;> cases d <;> first | rfl | exact absurd rfl h

@[simp] theorem Pnsc.setChan_setChan (c : Channel) (x y : ChanState) : (p.setChan c x).setChan c y = p.setChan c y := by
  cases c <;> rfl

@[simp] theorem Pnsc.setChan_chan (c : Channel) : p.setChan c (p.chan c) = p := by
  cases c <;> rfl

@[simp] theorem Pnsc.chan_setR_same (c : Channel) (R : BitVec 16) : (p.setR c R).chan c = { p.chan c with R := R } :=
  p.chan_setChan_same c _

theorem Pnsc.chan_setR_other {c d : Channel} (h : d ≠ c) (R : BitVec 16) : (p.setR c R).chan d = p.chan d :=
  p.chan_setChan_other h _

@[simp] theorem Pnsc.chan_ch1 : p.chan .ch1 = p.ch1 := rfl
@[simp] theorem Pnsc.chan_ch2 : p.chan .ch2 = p.ch2 := rfl

/-! The state: finishing a command, answering a read, the reset event, presenting an input. -/

@[simp] theorem finish_eq (q : Pnsc) : finish s q = .next { s with pnsc := q } := rfl
@[simp] theorem answerRead_eq (w : ReadWord) : answerRead s w = .next { s with rdData := w } := rfl
@[simp] theorem doNothing_eq : doNothing s = .next s := rfl
@[simp] theorem resetEvent_pnsc (r : ResetInputs) : (resetEvent r s).pnsc = pnscReset s.cfg r := rfl
@[simp] theorem resetEvent_cfg (r : ResetInputs) : (resetEvent r s).cfg = s.cfg := rfl
@[simp] theorem resetEvent_inputs (r : ResetInputs) : (resetEvent r s).inputs = s.inputs := rfl
@[simp] theorem resetEvent_rdData (r : ResetInputs) : (resetEvent r s).rdData = s.rdData := rfl
@[simp] theorem presentNext_pnsc (x : Input) : (presentNext x s).pnsc = s.pnsc := rfl
@[simp] theorem presentNext_cfg (x : Input) : (presentNext x s).cfg = s.cfg := rfl
@[simp] theorem presentNext_inputs (x : Input) : (presentNext x s).inputs = x :: s.inputs := rfl
@[simp] theorem presentNext_rdData (x : Input) : (presentNext x s).rdData = s.rdData := rfl

end Sys2Proof.Machine
end

