-- ==== Sys2Proof/Laws/Ops.lean ====
section
/-! SUPPORT. For each shared operation, what it can do, said once: later proofs cite these and do not unfold the
operation. -/

namespace Sys2Proof.Machine

variable (c : Config) (p : Pnsc)

/-! ### Operands -/

/-- Elapsed time on numbers. -/
theorem tdiff_toNat (a b : Time) : (tdiff a b).toNat = (2 ^ 32 - b.toNat + a.toNat) % 2 ^ 32 := by
  simp [tdiff, BitVec.toNat_sub]

@[simp] theorem tdiff_self (a : Time) : tdiff a a = 0 := by simp [tdiff]

/-- The clamp stays inside its bounds. -/
theorem clamp_bounds {v lo hi : Int} (h : lo ≤ hi) : lo ≤ clamp v lo hi ∧ clamp v lo hi ≤ hi := by
  unfold clamp; split <;> [omega; (split <;> omega)]

theorem lengthIndex_le (kx : Byte) : lengthIndex kx ≤ 7 := by
  have := kx.isLt
  simp only [lengthIndex, Nat.shiftRight_eq_div_pow]; omega

theorem divisorIndex_le (ky mod : Byte) : divisorIndex c ky mod ≤ 7 := by
  have h := clamp_bounds (v := (ky.toNat : Int) + mod.toNat - c.modBias) (lo := 0) (hi := 255) (by omega)
  simp only [divisorIndex, combined, Nat.shiftRight_eq_div_pow]; omega

theorem scaleIndex_le (sel : BitVec 2) : scaleIndex c sel ≤ 6 := by
  unfold scaleIndex
  split
  · split <;> omega
  · omega

/-- A resolved length comes from the table at its index. -/
theorem lengthOf_at {li : Nat} (h : li ≤ 7) : lengths[li]? = some (lengthOf li) := by
  interval_cases li <;> rfl

theorem lengthOf_range {li : Nat} (h : li ≤ 7) : 2 ≤ lengthOf li ∧ lengthOf li ≤ 16 := by
  interval_cases li <;> decide

/-- A resolved divisor is in the table. -/
theorem divisorOf_mem {di : Nat} (h : di ≤ 7) : divisorOf di ∈ divisors := by
  interval_cases di <;> decide

theorem divisorOf_range {di : Nat} (h : di ≤ 7) : 1 ≤ divisorOf di ∧ divisorOf di ≤ 16 := by
  interval_cases di <;> decide

/-! ### Clock recovery -/

@[simp] theorem clkrec_plug (v : Byte) : (clkrec c v p).1.plug = plugged c v := rfl
@[simp] theorem clkrec_trig (v : Byte) : (clkrec c v p).1.trig = (clockStep c p.clkState v).2 := rfl
@[simp] theorem clkrec_pnsc (v : Byte) : (clkrec c v p).2 = p.setClock (clockStep c p.clkState v).1 v := rfl

/-- An unplugged sample sets UNPLUGGED and fires nothing (R122). -/
theorem clockStep_unplugged {v : Byte} (h : plugged c v = false) (st : ClkState) :
    clockStep c st v = (.unplugged, false) := by
  simp [clockStep, h]

/-- What a clock step can do: one of the four branches of R127. -/
theorem clockStep_cases (st : ClkState) (v : Byte) :
    (plugged c v = false ∧ clockStep c st v = (.unplugged, false)) ∨
    (plugged c v = true ∧ st ≠ .high ∧ v.toNat > c.thresholdHigh ∧ clockStep c st v = (.high, true)) ∨
    (plugged c v = true ∧ st = .high ∧ v.toNat < c.thresholdLow ∧ clockStep c st v = (.low, false)) ∨
    (plugged c v = true ∧ st ≠ .high ∧ ¬ v.toNat > c.thresholdHigh ∧ clockStep c st v = (.low, false)) ∨
    (plugged c v = true ∧ st = .high ∧ ¬ v.toNat < c.thresholdLow ∧ clockStep c st v = (.high, false)) := by
  cases hp : plugged c v
  · simp [clockStep, hp]
  · cases st
    · by_cases h : v.toNat > c.thresholdHigh <;> simp [clockStep, hp, h]
    · by_cases h : v.toNat > c.thresholdHigh <;> simp [clockStep, hp, h]
    · by_cases h : v.toNat < c.thresholdLow <;> simp [clockStep, hp, h]

/-- A trigger needs a plugged sample above the upper threshold (R129). -/
theorem clockStep_fires {st : ClkState} {v : Byte} (h : (clockStep c st v).2 = true) :
    plugged c v = true ∧ st ≠ .high ∧ v.toNat > c.thresholdHigh := by
  rcases clockStep_cases c st v with ⟨_, e⟩ | ⟨a, b, d, _⟩ | ⟨_, _, _, e⟩ | ⟨_, _, _, e⟩ | ⟨_, _, _, e⟩
  · simp [e] at h
  · exact ⟨a, b, d⟩
  all_goals simp [e] at h

/-! ### Tap tempo -/

/-- An accepted gap lies in `T_MIN..T_MAX`, so it fits the interval's eleven bits. -/
theorem gapAccepted_range {d : Time} (h : gapAccepted d = true) : tMin ≤ d.toNat ∧ d.toNat ≤ tMax := by
  simpa [gapAccepted] using h

/-- What the estimator can do to the registers: only the tap-tempo registers change. -/
theorem tap_pnsc (sel : BitVec 2) (now : Time) :
    ∃ iv lt lg, (tap c sel now p).2 = p.setTap iv lt lg ∧
      (iv = p.interval ∨ (gapAccepted (tdiff now p.lastTap) = true ∧ iv = BitVec.ofNat 11 (tdiff now p.lastTap).toNat)) ∧
      (lt = p.lastTap ∨ lt = now) ∧ (lg = p.lastTrig ∨ lg = now) := by
  refine ⟨_, _, _, rfl, ?_, ?_, ?_⟩
  · split
    · rename_i h
      exact .inr ⟨by simp at h; exact h.2, rfl⟩
    · exact .inl rfl
  · exact (ite_eq_or_eq _ _ _).symm
  · exact (ite_eq_or_eq _ _ _).symm

/-! ### The shift register -/

/-- The new register: the new bit enters at bit 0, every other bit moves up by one (R161). -/
theorem shiftStep_bit (R : BitVec 16) (L : Nat) (prob : Byte) (r : Draw) (i : Nat) (hi : i < 16) :
    (shiftStep R L prob r).R.getLsbD i = if i = 0 then (shiftStep R L prob r).nb else R.getLsbD (i - 1) := by
  rcases Nat.eq_zero_or_pos i with rfl | h
  · simp [shiftStep]
  · have h1 : ¬ i < 1 := by omega
    have h0 : i ≠ 0 := by omega
    have h2 : i - 1 < 16 := by omega
    simp [shiftStep, hi, h0, h1, h2, BitVec.getLsbD_eq_getElem]

/-- The new bit: the fed-back one, complemented on a flip (R161). -/
theorem shiftStep_nb (R : BitVec 16) (L : Nat) (prob : Byte) (r : Draw) :
    (shiftStep R L prob r).nb = (R.getLsbD (L - 1) ^^ flips prob r) := by
  cases h : flips prob r <;> simp [shiftStep, h]

/-! ### The divider -/

/-- What the divider can do (R181). -/
theorem divtick_cases :
    (p.div.toNat ≤ p.divCnt.toNat + 1 ∧ divtick p = (true, p.setDivCnt 0)) ∨
    (p.divCnt.toNat + 1 < p.div.toNat ∧ divtick p = (false, p.setDivCnt (BitVec.ofNat 4 (p.divCnt.toNat + 1)))) := by
  unfold divtick
  by_cases h : p.div.toNat ≤ p.divCnt.toNat + 1
  · exact .inl ⟨h, if_pos h⟩
  · exact .inr ⟨by omega, if_neg h⟩

/-- The divider changes nothing but `div_cnt`. -/
theorem divtick_pnsc : ∃ n, (divtick p).2 = p.setDivCnt n := by
  rcases divtick_cases p with ⟨_, e⟩ | ⟨_, e⟩ <;> exact ⟨_, by rw [e]⟩

/-! ### The pulse generator -/

@[simp] theorem decay_zero_level (k n : Nat) : decay k n 0 = 0 := by
  cases n <;> simp [decay]

/-- One time unit more of decay, at its start. -/
theorem decay_succ (k n v : Nat) : decay k (n + 1) v = decay k n ((v * k) >>> 16) := by
  by_cases h : v = 0
  · subst h; simp [decay]
  · simp [decay, h]

@[simp] theorem ptrig_chan_same (ch : Channel) (now : Time) :
    (ptrig ch now p).chan ch = { p.chan ch with act := true, ptime := now } := by
  simp [ptrig]

theorem ptrig_chan_other {ch d : Channel} (h : d ≠ ch) (now : Time) : (ptrig ch now p).chan d = p.chan d := by
  simp [ptrig, Pnsc.chan_setChan_other p h]

@[simp] theorem penv_inactive {ch : Channel} (h : (p.chan ch).act = false) (t : Time) : penv c p ch t = 0 := by
  simp [penv, h]

theorem penv_active {ch : Channel} (h : (p.chan ch).act = true) (t : Time) :
    penv c p ch t = env c (tdiff t (p.chan ch).ptime).toNat := by
  simp [penv, h]

/-! ### Emitting and advancing -/

/-- The channel's record after an emit: everything but its register is written (R200). -/
def emitted (c : Config) (scaleIdx : BitVec 3) (now : Time) (x : ChanState) : ChanState where
  R := x.R
  act := true
  ptime := now
  S := (quant c (lowByte x.R) scaleIdx.toNat).SBits
  pc := (quant c (lowByte x.R) scaleIdx.toNat).pclBits
  oct := (quant c (lowByte x.R) scaleIdx.toNat).octBits
  M := BitVec.ofInt 16 (modval (lowByte x.R))

@[simp] theorem emit_note (ch : Channel) (now : Time) :
    (emit c ch now p).1 = quant c (lowByte (p.chan ch).R) p.scaleIdx.toNat := rfl

/-- An emit changes nothing but its channel. -/
theorem emit_pnsc (ch : Channel) (now : Time) :
    (emit c ch now p).2 = p.setChan ch (emitted c p.scaleIdx now (p.chan ch)) := by
  cases ch <;> rfl

/-- An advance changes nothing but its channel (R263). -/
theorem advance_pnsc (ch : Channel) (prob : Byte) (r : Draw) (now : Time) :
    advance c ch prob r now p =
      p.setChan ch (emitted c p.scaleIdx now
        { p.chan ch with R := (shiftStep (p.chan ch).R p.len.toNat prob r).R }) := by
  cases ch <;> rfl

/-! ### Resolving the selections -/

@[simp] theorem resolve_changed (sel : BitVec 2) (mod kx ky : Byte) (now : Time) :
    (resolve c sel mod kx ky now p).1 = decide (BitVec.ofNat 5 (lengthOf (lengthIndex kx)) ≠ p.len) := rfl

/-- What a resolve does to the registers (R250): the four selections, and the window when the length changed. -/
theorem resolve_pnsc (sel : BitVec 2) (mod kx ky : Byte) (now : Time) :
    (resolve c sel mod kx ky now p).2 =
      (if (resolve c sel mod kx ky now p).1 then p.openWindow now else p).setSelection
        (BitVec.ofNat 5 (lengthOf (lengthIndex kx))) (BitVec.ofNat 3 (storedLengthIndex (lengthIndex kx)))
        (BitVec.ofNat 5 (divisorOf (divisorIndex c ky mod))) (BitVec.ofNat 3 (scaleIndex c sel)) := rfl

/-! ### The display -/

@[simp] theorem display_win (now : Time) : (display c now p).1 = windowOpen p now := rfl

/-- What the display operation does (R271): nothing but `disp` and the LEDs change. -/
theorem display_pnsc (now : Time) :
    (display c now p).2 =
      p.setDisplay (windowOpen p now)
        (if windowOpen p now then patternLeds c p.lenIdx else steadyLeds c { p with disp := windowOpen p now } now) := rfl

/-! ### The phases of a tick -/

/-- Phase (b) (R262): which of the two components can fire, and what the registers become. -/
theorem triggerPhase_cases (sel : BitVec 2) (clk : Byte) (now : Time) :
    (plugged c clk = true ∧ triggerPhase c sel clk now p =
      ({ trig := (clockStep c p.clkState clk).2, plug := true, edge := false, acc := false },
        (p.setClock (clockStep c p.clkState clk).1 clk).setPrevSel sel)) ∨
    (plugged c clk = false ∧ triggerPhase c sel clk now p =
      ({ trig := (tap c sel now (p.setClock .unplugged clk)).1.trig, plug := false,
         edge := (tap c sel now (p.setClock .unplugged clk)).1.edge,
         acc := (tap c sel now (p.setClock .unplugged clk)).1.acc },
        (tap c sel now (p.setClock .unplugged clk)).2.setPrevSel sel)) := by
  cases h : plugged c clk
  · right
    simp [triggerPhase, h, clockStep_unplugged c h]
  · left
    simp [triggerPhase, h]

/-- Phase (c) (R260): nothing without a trigger. -/
theorem advancePhase_idle (prob : Byte) (r1 r2 : Draw) (now : Time) :
    advancePhase c false prob r1 r2 now p = (false, p) := rfl

/-- Phase (c) (R260): channel 1 and the divider on a trigger, channel 2 when the divider signals. -/
theorem advancePhase_trig (prob : Byte) (r1 r2 : Draw) (now : Time) :
    advancePhase c true prob r1 r2 now p =
      ((divtick (advance c .ch1 prob r1 now p)).1,
        if (divtick (advance c .ch1 prob r1 now p)).1
        then advance c .ch2 prob r2 now (divtick (advance c .ch1 prob r1 now p)).2
        else (divtick (advance c .ch1 prob r1 now p)).2) := rfl

end Sys2Proof.Machine
end

