-- ==== Sys2Proof/Laws/PerInstr.lean ====
section
/-! SUPPORT. Statements made for every instruction, one lemma per constructor of `Instr`. The family here:
`EncodesItsRow`, the encoding of an instruction fits its row of spec/opcode_table.json. -/

namespace Sys2Proof.Laws

/-- A row of spec/opcode_table.json: a command row's mask and match, or a read row's five bits. -/
inductive TableRow where
  | cmd (mask value : CmdWord)
  | rd (pattern : ReadAddr)
  deriving DecidableEq, Repr

/-- The row of each instruction, as the table has it. -/
def rowOf : Instr → TableRow
  | .nop => .cmd 0xF 0x0
  | .tick _ _ _ _ _ _ _ _ _ => .cmd 0xF 0x1
  | .resolve _ _ _ _ _ _ => .cmd 0xF 0x2
  | .clkrec _ => .cmd 0xF 0x3
  | .taptmp _ _ => .cmd 0xF 0x4
  | .srstep _ _ _ _ => .cmd 0xF 0x5
  | .divtick => .cmd 0xF 0x6
  | .quant _ _ => .cmd 0xF 0x7
  | .emit _ _ => .cmd 0xF 0x8
  | .ptrig _ _ => .cmd 0xF 0x9
  | .display _ => .cmd 0xF 0xA
  | .reservedB => .cmd 0xF 0xB
  | .reservedC => .cmd 0xF 0xC
  | .reservedD => .cmd 0xF 0xD
  | .reservedE => .cmd 0xF 0xE
  | .reservedF => .cmd 0xF 0xF
  | .rdResult _ => .rd 0b00000
  | .rdStatus _ => .rd 0b00001
  | .rdClklast _ => .rd 0b00010
  | .rdReg1 _ => .rd 0b00011
  | .rdReg2 _ => .rd 0b00100
  | .rdPitch1 _ => .rd 0b00101
  | .rdPitch2 _ => .rd 0b00110
  | .rdMod1 _ => .rd 0b00111
  | .rdMod2 _ => .rd 0b01000
  | .rdPulse1 _ => .rd 0b01001
  | .rdPulse2 _ => .rd 0b01010
  | .rdPtime1 _ => .rd 0b01011
  | .rdPtime2 _ => .rd 0b01100
  | .rdLeda _ => .rd 0b01101
  | .rdLedb _ => .rd 0b01110
  | .rdTapint _ => .rd 0b01111
  | .rdTaplast _ => .rd 0b10000
  | .rdTriglast _ => .rd 0b10001
  | .rdLentime _ => .rd 0b10010
  | .rdReserved13 _ => .rd 0b10011
  | .rdReserved14 _ => .rd 0b10100
  | .rdReserved15 _ => .rd 0b10101
  | .rdReserved16 _ => .rd 0b10110
  | .rdReserved17 _ => .rd 0b10111
  | .rdReserved18 _ => .rd 0b11000
  | .rdReserved19 _ => .rd 0b11001
  | .rdReserved1A _ => .rd 0b11010
  | .rdReserved1B _ => .rd 0b11011
  | .rdReserved1C _ => .rd 0b11100
  | .rdReserved1D _ => .rd 0b11101
  | .rdReserved1E _ => .rd 0b11110
  | .rdReserved1F _ => .rd 0b11111

/-- An access fits a row: the masked word is the row's match, or the address is the row's pattern. -/
def fits : TableRow → Access → Prop
  | .cmd mask value, .command w => w &&& mask = value
  | .rd pattern, .read a _ => a = pattern
  | .cmd _ _, .read _ _ => False
  | .rd _, .command _ => False

/-- The low four bits of a packed word are its opcode. -/
theorem word_opcode (f : CmdFields) : f.word &&& 0xF = f.op.setWidth 128 := by
  rw [show (0xF : CmdWord) = 15#128 from rfl]
  apply BitVec.eq_of_getLsbD_eq
  intro i hi
  rw [BitVec.getLsbD_and, BitVec.getLsbD_setWidth]
  by_cases h : i < 4
  · have hm : (15#128).getLsbD i = true := by interval_cases i <;> decide
    rw [hm, CmdFields.word, BitVec.getLsbD_append]
    simp [h, hi]
  · have hm : (15#128).getLsbD i = false := by
      have h4 : (15#128) = BitVec.setWidth 128 (15#4) := by decide
      rw [h4, BitVec.getLsbD_setWidth, BitVec.getLsbD_of_ge _ _ (by omega)]; simp
    rw [hm, BitVec.getLsbD_of_ge f.op i (by omega)]
    simp

/-- A command's encoding fits the row of its opcode. -/
theorem command_fits (f : CmdFields) {value : CmdWord} (h : f.op.setWidth 128 = value) :
    fits (.cmd 0xF value) (commandAccess f) :=
  (word_opcode f).trans h

/-- The encoding of the instruction fits its row. -/
def EncodesItsRow.Statement (i : Instr) : Prop := fits (rowOf i) (encode i)

theorem EncodesItsRow.nop : EncodesItsRow.Statement (.nop) := command_fits _ rfl

theorem EncodesItsRow.tick (sel : BitVec 2) (clk mod kx ky km : Byte) (now : Time) (r1 r2 : Draw) : EncodesItsRow.Statement (.tick sel clk mod kx ky km now r1 r2) := command_fits _ rfl

theorem EncodesItsRow.resolve (sel : BitVec 2) (mod kx ky km : Byte) (now : Time) : EncodesItsRow.Statement (.resolve sel mod kx ky km now) := command_fits _ rfl

theorem EncodesItsRow.clkrec (clk : Byte) : EncodesItsRow.Statement (.clkrec clk) := command_fits _ rfl

theorem EncodesItsRow.taptmp (sel : BitVec 2) (now : Time) : EncodesItsRow.Statement (.taptmp sel now) := command_fits _ rfl

theorem EncodesItsRow.srstep (ch : Channel) (km : Byte) (lm1 : BitVec 4) (r1 : Draw) : EncodesItsRow.Statement (.srstep ch km lm1 r1) := command_fits _ rfl

theorem EncodesItsRow.divtick : EncodesItsRow.Statement (.divtick) := command_fits _ rfl

theorem EncodesItsRow.quant (clk : Byte) (sc : BitVec 3) : EncodesItsRow.Statement (.quant clk sc) := command_fits _ rfl

theorem EncodesItsRow.emit (ch : Channel) (now : Time) : EncodesItsRow.Statement (.emit ch now) := command_fits _ rfl

theorem EncodesItsRow.ptrig (ch : Channel) (now : Time) : EncodesItsRow.Statement (.ptrig ch now) := command_fits _ rfl

theorem EncodesItsRow.display (now : Time) : EncodesItsRow.Statement (.display now) := command_fits _ rfl

theorem EncodesItsRow.reservedB : EncodesItsRow.Statement (.reservedB) := command_fits _ rfl

theorem EncodesItsRow.reservedC : EncodesItsRow.Statement (.reservedC) := command_fits _ rfl

theorem EncodesItsRow.reservedD : EncodesItsRow.Statement (.reservedD) := command_fits _ rfl

theorem EncodesItsRow.reservedE : EncodesItsRow.Statement (.reservedE) := command_fits _ rfl

theorem EncodesItsRow.reservedF : EncodesItsRow.Statement (.reservedF) := command_fits _ rfl

theorem EncodesItsRow.rdResult (t : Time) : EncodesItsRow.Statement (.rdResult t) := rfl

theorem EncodesItsRow.rdStatus (t : Time) : EncodesItsRow.Statement (.rdStatus t) := rfl

theorem EncodesItsRow.rdClklast (t : Time) : EncodesItsRow.Statement (.rdClklast t) := rfl

theorem EncodesItsRow.rdReg1 (t : Time) : EncodesItsRow.Statement (.rdReg1 t) := rfl

theorem EncodesItsRow.rdReg2 (t : Time) : EncodesItsRow.Statement (.rdReg2 t) := rfl

theorem EncodesItsRow.rdPitch1 (t : Time) : EncodesItsRow.Statement (.rdPitch1 t) := rfl

theorem EncodesItsRow.rdPitch2 (t : Time) : EncodesItsRow.Statement (.rdPitch2 t) := rfl

theorem EncodesItsRow.rdMod1 (t : Time) : EncodesItsRow.Statement (.rdMod1 t) := rfl

theorem EncodesItsRow.rdMod2 (t : Time) : EncodesItsRow.Statement (.rdMod2 t) := rfl

theorem EncodesItsRow.rdPulse1 (t : Time) : EncodesItsRow.Statement (.rdPulse1 t) := rfl

theorem EncodesItsRow.rdPulse2 (t : Time) : EncodesItsRow.Statement (.rdPulse2 t) := rfl

theorem EncodesItsRow.rdPtime1 (t : Time) : EncodesItsRow.Statement (.rdPtime1 t) := rfl

theorem EncodesItsRow.rdPtime2 (t : Time) : EncodesItsRow.Statement (.rdPtime2 t) := rfl

theorem EncodesItsRow.rdLeda (t : Time) : EncodesItsRow.Statement (.rdLeda t) := rfl

theorem EncodesItsRow.rdLedb (t : Time) : EncodesItsRow.Statement (.rdLedb t) := rfl

theorem EncodesItsRow.rdTapint (t : Time) : EncodesItsRow.Statement (.rdTapint t) := rfl

theorem EncodesItsRow.rdTaplast (t : Time) : EncodesItsRow.Statement (.rdTaplast t) := rfl

theorem EncodesItsRow.rdTriglast (t : Time) : EncodesItsRow.Statement (.rdTriglast t) := rfl

theorem EncodesItsRow.rdLentime (t : Time) : EncodesItsRow.Statement (.rdLentime t) := rfl

theorem EncodesItsRow.rdReserved13 (t : Time) : EncodesItsRow.Statement (.rdReserved13 t) := rfl

theorem EncodesItsRow.rdReserved14 (t : Time) : EncodesItsRow.Statement (.rdReserved14 t) := rfl

theorem EncodesItsRow.rdReserved15 (t : Time) : EncodesItsRow.Statement (.rdReserved15 t) := rfl

theorem EncodesItsRow.rdReserved16 (t : Time) : EncodesItsRow.Statement (.rdReserved16 t) := rfl

theorem EncodesItsRow.rdReserved17 (t : Time) : EncodesItsRow.Statement (.rdReserved17 t) := rfl

theorem EncodesItsRow.rdReserved18 (t : Time) : EncodesItsRow.Statement (.rdReserved18 t) := rfl

theorem EncodesItsRow.rdReserved19 (t : Time) : EncodesItsRow.Statement (.rdReserved19 t) := rfl

theorem EncodesItsRow.rdReserved1A (t : Time) : EncodesItsRow.Statement (.rdReserved1A t) := rfl

theorem EncodesItsRow.rdReserved1B (t : Time) : EncodesItsRow.Statement (.rdReserved1B t) := rfl

theorem EncodesItsRow.rdReserved1C (t : Time) : EncodesItsRow.Statement (.rdReserved1C t) := rfl

theorem EncodesItsRow.rdReserved1D (t : Time) : EncodesItsRow.Statement (.rdReserved1D t) := rfl

theorem EncodesItsRow.rdReserved1E (t : Time) : EncodesItsRow.Statement (.rdReserved1E t) := rfl

theorem EncodesItsRow.rdReserved1F (t : Time) : EncodesItsRow.Statement (.rdReserved1F t) := rfl

end Sys2Proof.Laws
end

