-- ==== Sys2Proof/Tests/Slice0.lean ====
section
/-! SUPPORT. Tests. Expected values come from spec/ (the encoding tables of 30_encoding.md, the worked examples of the
family files and the tables of 95_test_vectors.md) or from its rules by hand, never from the model. The last part shows, for each statement
of Certificates/Slice0/Obligations.lean that has hypotheses, states and operands that meet them. -/

namespace Sys2Proof.Tests

open Sys2Proof.Machine

/-! ### Helpers -/

/-- The machine after `Reset(s1, s2, t0)` in the sense of 95_test_vectors.md. -/
def afterReset (s1 s2 : BitVec 16) (t0 : Time) : State :=
  resetEvent { resetInputsZero with seed1 := s1, seed2 := s2, nowRst := t0 } State.reset

/-- A state with these registers. -/
def withPnsc (p : Pnsc) : State := { State.reset with pnsc := p }

/-- The registers after reset from the seeds of programs P1 and P2. -/
def seeded : Pnsc := (afterReset 0xACE1 0x1234 0).pnsc

/-- The registers an instruction leads to. -/
def after (i : Instr) (s : State) : Option Pnsc :=
  match exec i s with
  | .next t => some t.pnsc
  | .fault _ => none
  | .refused _ => none

/-- The `RESULT` an instruction leads to. -/
def resultAfter (i : Instr) (s : State) : Option (BitVec 32) := (after i s).map Pnsc.result

/-- The word a read answers. -/
def answer (i : Instr) (s : State) : Option ReadWord :=
  match exec i s with
  | .next t => some t.rdData
  | .fault _ => none
  | .refused _ => none

/-! ### Well-formedness: one ill-formed term for each check -/

theorem test_p0_is_wellFormed : Config.p0.wellFormed = true := by decide
theorem test_idle_order_refused : { Config.p0 with idleLo := 133 }.wellFormed = false := by decide
theorem test_idle_range_refused : { Config.p0 with idleHi := 256 }.wellFormed = false := by decide
theorem test_threshold_order_refused : { Config.p0 with thresholdLow := 160 }.wellFormed = false := by decide
theorem test_threshold_range_refused : { Config.p0 with thresholdHigh := 256 }.wellFormed = false := by decide
theorem test_tapPos_refused : { Config.p0 with tapPos := 3 }.wellFormed = false := by decide
theorem test_scaleOfSel_refused : { Config.p0 with scaleOfSel := [0, 1] }.wellFormed = false := by decide
theorem test_scaleRom_count_refused : { Config.p0 with scaleRom := [chromatic] }.wellFormed = false := by decide
theorem test_scaleRom_head_refused : { Config.p0 with scaleRom := List.replicate 7 [0, 2, 4, 5, 7] }.wellFormed = false := by
  decide
theorem test_scale_empty_refused : Config.p0.scaleOk [] = false := by decide
theorem test_scale_entry_refused : Config.p0.scaleOk [0, 2, 4, 12] = false := by decide
theorem test_scale_short_refused : Config.p0.scaleOk [0, 3, 7] = false := by decide
theorem test_noteSpan_refused : { Config.p0 with noteSpan := 0 }.wellFormed = false := by decide
theorem test_noteSpan_high_refused : { Config.p0 with noteSpan := 81 }.noteSpanOk = false := by decide
theorem test_baseNote_refused : { Config.p0 with baseNote := 128 }.wellFormed = false := by decide
theorem test_refNote_refused : { Config.p0 with refNote := 128 }.wellFormed = false := by decide
theorem test_modBias_refused : { Config.p0 with modBias := 256 }.wellFormed = false := by decide
theorem test_pulseHold_refused : { Config.p0 with pulseHold := 65536 }.wellFormed = false := by decide
theorem test_pulseK_refused : { Config.p0 with pulseK := 65536 }.wellFormed = false := by decide
theorem test_tapInterval_refused : { Config.p0 with tapIntervalReset := 99 }.wellFormed = false := by decide
theorem test_tapInterval_high_refused : { Config.p0 with tapIntervalReset := 2001 }.wellFormed = false := by decide
theorem test_lenPat_refused : { Config.p0 with lenPat := [] }.wellFormed = false := by decide
theorem test_asm_wide_value_refused : (AsmLine.cmd .TICK [(.sel, 4)]).wellFormed = false := by decide
theorem test_asm_double_field_refused : (AsmLine.cmd .TICK [(.sel, 1), (.sel, 1)]).wellFormed = false := by decide
theorem test_asm_read_time_refused : (AsmLine.rd 0x09 (2 ^ 32)).wellFormed = false := by decide
theorem test_asm_line_accepted : (AsmLine.cmd .TICK [(.r2, 0xFFFF), (.sel, 3), (.now, 2 ^ 32 - 1)]).wellFormed = true := by
  decide

/-! ### Decoding: a word for every constructor (R91, R92; the words of 95_test_vectors.md where it has one) -/

theorem test_decode_nop : decodeCommand 0x00000000000000000000000000000000 = .nop := by decide
theorem test_decode_tick :
    decodeCommand 0x80008000000000100000FF00FF00C811 = .tick 1 200 0 255 0 255 16 0x8000 0x8000 := by decide
/-- Every field another value: bits [5:4] = 2, clk A1, mod B2, kx C3, ky D4, km E5, now 01234567, r1 89AB, r2 CDEF. -/
theorem test_decode_tick_fields :
    decodeCommand 0xCDEF89AB012345670000E5D4C3B2A121 = .tick 2 0xA1 0xB2 0xC3 0xD4 0xE5 0x01234567 0x89AB 0xCDEF := by
  decide
theorem test_decode_resolve :
    decodeCommand 0x000000000000003200004DC800640022 = .resolve 2 100 0 200 77 50 := by decide
theorem test_decode_clkrec : decodeCommand 0x0000000000000000000000000000A103 = .clkrec 161 := by decide
/-- 95_test_vectors.md 2.10: every unread field set. -/
theorem test_decode_clkrec_unread : decodeCommand 0xFFFFFFFFFFFFFFFFFFFFFFFFFFFFA1F3 = .clkrec 161 := by decide
theorem test_decode_taptmp : decodeCommand 0x00000000FFFFFF380000000000000004 = .taptmp 0 0xFFFFFF38 := by decide
theorem test_decode_srstep : decodeCommand 0x0000FFFF00000000000FFF0000000045 = .srstep .ch2 255 15 65535 := by decide
theorem test_decode_divtick : decodeCommand 0x00000000000000000000000000000006 = .divtick := by decide
theorem test_decode_quant : decodeCommand 0x0000000000000000003000000000E107 = .quant 0xE1 3 := by decide
theorem test_decode_emit : decodeCommand 0x000000000000003C0000000000000048 = .emit .ch2 60 := by decide
theorem test_decode_ptrig : decodeCommand 0x00000000000000460000000000000009 = .ptrig .ch1 70 := by decide
theorem test_decode_display : decodeCommand 0x00000000000009C3000000000000000A = .display 2499 := by decide
theorem test_decode_reservedB : decodeCommand 0x0000000000000000000000000000000B = .reservedB := by decide
theorem test_decode_reservedC : decodeCommand 0x0000000000000000000000000000000C = .reservedC := by decide
theorem test_decode_reservedD : decodeCommand 0x0000000000000000000000000000000D = .reservedD := by decide
theorem test_decode_reservedE : decodeCommand 0x0000000000000000000000000000000E = .reservedE := by decide
theorem test_decode_reservedF : decodeCommand 0xFFFFFFFFFFFFFFFFFFFFFFFFFFFFFFFF = .reservedF := by decide

/-- The defined addresses of the map of R40. -/
theorem test_decode_reads :
    decodeRead 0b00000 7 = .rdResult 7 ∧ decodeRead 0b00001 7 = .rdStatus 7 ∧ decodeRead 0b00010 7 = .rdClklast 7 ∧
    decodeRead 0b00011 7 = .rdReg1 7 ∧ decodeRead 0b00100 7 = .rdReg2 7 ∧ decodeRead 0b00101 7 = .rdPitch1 7 ∧
    decodeRead 0b00110 7 = .rdPitch2 7 ∧ decodeRead 0b00111 7 = .rdMod1 7 ∧ decodeRead 0b01000 7 = .rdMod2 7 ∧
    decodeRead 0b01001 7 = .rdPulse1 7 ∧ decodeRead 0b01010 7 = .rdPulse2 7 ∧ decodeRead 0b01011 7 = .rdPtime1 7 ∧
    decodeRead 0b01100 7 = .rdPtime2 7 ∧ decodeRead 0b01101 7 = .rdLeda 7 ∧ decodeRead 0b01110 7 = .rdLedb 7 ∧
    decodeRead 0b01111 7 = .rdTapint 7 ∧ decodeRead 0b10000 7 = .rdTaplast 7 ∧ decodeRead 0b10001 7 = .rdTriglast 7 ∧
    decodeRead 0b10010 7 = .rdLentime 7 := by decide

/-- The reserved addresses of the map of R40. -/
theorem test_decode_reserved_reads :
    decodeRead 0x13 7 = .rdReserved13 7 ∧ decodeRead 0x14 7 = .rdReserved14 7 ∧ decodeRead 0x15 7 = .rdReserved15 7 ∧
    decodeRead 0x16 7 = .rdReserved16 7 ∧ decodeRead 0x17 7 = .rdReserved17 7 ∧ decodeRead 0x18 7 = .rdReserved18 7 ∧
    decodeRead 0x19 7 = .rdReserved19 7 ∧ decodeRead 0x1A 7 = .rdReserved1A 7 ∧ decodeRead 0x1B 7 = .rdReserved1B 7 ∧
    decodeRead 0x1C 7 = .rdReserved1C 7 ∧ decodeRead 0x1D 7 = .rdReserved1D 7 ∧ decodeRead 0x1E 7 = .rdReserved1E 7 ∧
    decodeRead 0x1F 7 = .rdReserved1F 7 := by decide

/-- The assembler line of R100 and its word. -/
theorem test_assemble_tick :
    assemble (.cmd .TICK [(.sel, 1), (.clk, 200), (.mod, 0), (.kx, 255), (.ky, 0), (.km, 255), (.now, 16), (.r1, 0x8000),
      (.r2, 0x8000)]) = .command 0x80008000000000100000FF00FF00C811 := by decide

/-- R94: a field the command does not read is written 0, also when the line gives it. -/
theorem test_assemble_unread_field :
    assemble (.cmd .CLKREC [(.now, 5), (.clk, 161)]) = .command 0x0000000000000000000000000000A103 := by decide

/-- The read of R100: `RD PULSE1 t=320`. -/
theorem test_assemble_read : assemble (.rd 0x09 320) = .read 0x09 320 := by decide

theorem test_bytes_of_command :
    bytesOfCommand 0x0000000000000000000000000000A103 = [0x03, 0xA1, 0, 0, 0, 0, 0, 0, 0, 0, 0, 0, 0, 0, 0, 0] := by decide

theorem test_table_word_command : decodeTableWord 128 0x0000000000000000000000000000A103 = some (.clkrec 161) := by decide
theorem test_table_word_read : decodeTableWord 5 0x12 = some (.rdLentime 0) := by decide
theorem test_presented_word_runs :
    step (State.reset.withFetchWord 128 0x0000000000000000000000000000A103) = exec (.clkrec 161) State.reset := rfl

/-! ### One step of each instruction -/

/-- R280: `NOP` keeps `RESULT`. -/
theorem test_nop : resultAfter .nop (withPnsc { seeded with result := 0x80 }) = some 0x80 := by decide
theorem test_reservedB : resultAfter .reservedB (withPnsc { seeded with result := 0x80 }) = some 0x80 := by decide
theorem test_reservedC : resultAfter .reservedC (withPnsc { seeded with result := 0x80 }) = some 0x80 := by decide
theorem test_reservedD : resultAfter .reservedD (withPnsc { seeded with result := 0x80 }) = some 0x80 := by decide
theorem test_reservedE : resultAfter .reservedE (withPnsc { seeded with result := 0x80 }) = some 0x80 := by decide
theorem test_reservedF : resultAfter .reservedF (withPnsc { seeded with result := 0x80 }) = some 0x80 := by decide

/-- R260's worked example, program P1 row 1. -/
theorem test_tick_plugged :
    (after (.tick 1 200 0 255 0 255 16 0x8000 0x8000) (withPnsc seeded)).map
      (fun p => (p.result, p.ch1.R, p.ch2.R, p.clkState)) = some (0x1FE4300F, 0x59C3, 0x2468, .high) := by decide

/-- Program P3 row 2: a tap edge of gap 200 on an unplugged sample, length 4, window open since 100. -/
theorem test_tick_tap :
    (after (.tick 0 128 0 64 0 255 200 0 0)
      (withPnsc { (afterReset 0xBEEF 0x0001 0).pnsc with
        prevSel := 1, len := 4, lenIdx := 2, scaleIdx := 1, lenTime := 100, disp := true })).map
      (fun p => (p.result, p.ch1.R, p.ch2.R, p.interval, p.lastTap, p.lastTrig)) =
      some (0x1FE024BD, 0x7DDF, 0x0002, 200, 200, 0) := by decide

/-- R240's worked example. -/
theorem test_resolve :
    (after (.resolve 2 100 0 200 77 50) State.reset).map (fun p => (p.result, p.lenTime, p.disp)) =
      some (0x09AA0240, 50, true) := by decide

/-- R96: selector 3 gives chromatic; code 224 gives length 16, which is no change after reset. -/
theorem test_resolve_selector3 :
    (after (.resolve 3 0 224 0 0 50) State.reset).map (fun p => (p.scaleIdx, p.len, p.disp)) = some (0, 16, false) := by
  decide

/-- R120's worked example. -/
theorem test_clkrec_fires : resultAfter (.clkrec 161) State.reset = some 0x00000203 := by decide
/-- 95_test_vectors.md 2.1: 140 in state HIGH does not fall. -/
theorem test_clkrec_holds :
    resultAfter (.clkrec 140) (withPnsc { seeded with clkState := .high }) = some 0x00000202 := by decide

/-- 95_test_vectors.md 2.2, T2 row 4: gap exactly 100, and the free-running test on the new interval. -/
theorem test_taptmp_gap100 :
    (after (.taptmp 0 199) (withPnsc { seeded with prevSel := 1, lastTap := 99 })).map
      (fun p => (p.result, p.interval, p.lastTap, p.lastTrig)) = some (0x00006431, 100, 199, 199) := by decide
/-- 95_test_vectors.md 2.2, T4 row 4: a gap of 300 across the wrap of the time. -/
theorem test_taptmp_wrap :
    (after (.taptmp 0 0x64) (withPnsc { seeded with
      prevSel := 1, lastTap := 0xFFFFFF38, lastTrig := 0xFFFFFF40, interval := 312 })).map
      (fun p => (p.result, p.lastTrig)) = some (0x00012C31, 0xFFFFFF40) := by decide

/-- 95_test_vectors.md 2.3, rows 8 and 13. -/
theorem test_srstep_flip : resultAfter (.srstep .ch1 128 7 32897) (withPnsc seeded) = some 0x0359C200 := by decide
theorem test_srstep_rotate :
    (after (.srstep .ch2 255 15 0) (afterReset 0 0x8000 0)).map (fun p => (p.result, p.ch1.R, p.ch2.R)) =
      some (0x05000100, 0, 1) := by decide

/-- R180's worked example and its corner case 16. -/
theorem test_divtick : resultAfter .divtick (withPnsc { seeded with div := 16 }) = some 0x00000100 := by decide
theorem test_divtick_wraps :
    (after .divtick (withPnsc { seeded with div := 16, divCnt := 15 })).map (fun p => (p.result, p.divCnt)) =
      some (0x00000008, 0) := by decide

/-- R199's worked example; program P4 row 5: scale 7 is chromatic. -/
theorem test_quant : resultAfter (.quant 0xE1 3) State.reset = some 0x007DA500 := by decide
theorem test_quant_scale7 : resultAfter (.quant 200 7) State.reset = some 0x002E3A00 := by decide

/-- R200's worked example: `M` is -253. -/
theorem test_emit :
    (after (.emit .ch2 60) (withPnsc { (afterReset 0 1 0).pnsc with scaleIdx := 2 })).map
      (fun p => (p.result, p.ch2.M, p.ch2.act, p.ch2.ptime)) = some (0, 0xFF03, true, 60) := by decide
/-- Program P1's last emit on channel 1: byte 179 on major. -/
theorem test_emit_major :
    (after (.emit .ch1 304) (withPnsc { (afterReset 0x86B3 0 0).pnsc with scaleIdx := 1 })).map
      (fun p => (p.ch1.S, p.ch1.pc, p.ch1.oct, p.ch1.M)) = some (71, 11, 5, 103) := by decide

/-- R220's worked example. -/
theorem test_ptrig :
    (after (.ptrig .ch1 70) (withPnsc seeded)).map (fun p => (p.result, p.ch1.act, p.ch1.ptime, p.ch2.act)) =
      some (0, true, 70, false) := by decide

/-- R270's worked example: the two sides of the end of the window. -/
theorem test_display_inside :
    (after (.display 2499) (withPnsc { seeded with disp := true, lenTime := 1000, lenIdx := 5 })).map
      (fun p => (p.result, p.disp, p.led.led2, p.led.led3)) = some (0x80, true, 0, 255) := by decide
theorem test_display_outside :
    (after (.display 2500) (withPnsc { seeded with disp := true, lenTime := 1000, lenIdx := 5 })).map
      (fun p => (p.result, p.disp, p.led.led1, p.led.led3)) = some (0, false, 255, 0) := by decide

/-! ### Reads (the end state of program P1 and the examples of 45_pulse.md) -/

/-- Registers with the outputs of channel 1 as at the end of program P1. -/
def p1End : Pnsc :=
  { seeded with
    clkState := .low, clkLast := 100, prevSel := 1, scaleIdx := 1, result := 0x1FE43002
    ch1 := { R := 0x86B3, act := true, ptime := 304, S := 71, pc := 11, oct := 5, M := 103 }
    ch2 := { R := 0xD048, act := true, ptime := 304, S := 28, pc := 4, oct := 2, M := 0xFF91 }
    led := { led0 := 189, led1 := 255, led2 := 254, led3 := 188, led4 := 1, led5 := 2 } }

theorem test_rd_result : answer (.rdResult 0) (withPnsc p1End) = some 0x1FE43002 := by decide
theorem test_rd_status : answer (.rdStatus 0) (withPnsc p1End) = some 0x0E40302D := by decide
theorem test_rd_clklast : answer (.rdClklast 0) (withPnsc p1End) = some 100 := by decide
theorem test_rd_reg1 : answer (.rdReg1 0) (withPnsc p1End) = some 0x000086B3 := by decide
theorem test_rd_reg2 : answer (.rdReg2 0) (withPnsc p1End) = some 0x0000D048 := by decide
theorem test_rd_pitch1 : answer (.rdPitch1 0) (withPnsc p1End) = some 0x005B0047 := by decide
theorem test_rd_pitch2 : answer (.rdPitch2 0) (withPnsc p1End) = some 0x0024001C := by decide
theorem test_rd_mod1 : answer (.rdMod1 0) (withPnsc p1End) = some 0x00000067 := by decide
theorem test_rd_mod2 : answer (.rdMod2 0) (withPnsc p1End) = some 0x0000FF91 := by decide
theorem test_rd_pulse1 : answer (.rdPulse1 320) (withPnsc p1End) = some 48549 := by decide
theorem test_rd_pulse2 : answer (.rdPulse2 314) (withPnsc p1End) = some 65535 := by decide
theorem test_rd_pulse_never_triggered : answer (.rdPulse1 12345) State.reset = some 0 := by decide
theorem test_rd_ptime1 : answer (.rdPtime1 0) (withPnsc p1End) = some 304 := by decide
theorem test_rd_ptime2 : answer (.rdPtime2 0) (withPnsc p1End) = some 304 := by decide
theorem test_rd_leda : answer (.rdLeda 0) (withPnsc p1End) = some 0x00FEFFBD := by decide
theorem test_rd_ledb : answer (.rdLedb 0) (withPnsc p1End) = some 0x000201BC := by decide
theorem test_rd_tapint : answer (.rdTapint 0) (withPnsc p1End) = some 500 := by decide
theorem test_rd_taplast : answer (.rdTaplast 0) (afterReset 0 0 0xFFFFFE00) = some 0xFFFFFE00 := by decide
theorem test_rd_triglast : answer (.rdTriglast 0) (afterReset 0 0 0xFFFFFE00) = some 0xFFFFFE00 := by decide
theorem test_rd_lentime : answer (.rdLentime 0) (withPnsc { p1End with disp := true, lenTime := 50 }) = some 50 := by decide
theorem test_rd_reserved13 : answer (.rdReserved13 0) (withPnsc p1End) = some 0 := by decide
theorem test_rd_reserved14 : answer (.rdReserved14 0) (withPnsc p1End) = some 0 := by decide
theorem test_rd_reserved15 : answer (.rdReserved15 0) (withPnsc p1End) = some 0 := by decide
theorem test_rd_reserved16 : answer (.rdReserved16 0) (withPnsc p1End) = some 0 := by decide
theorem test_rd_reserved17 : answer (.rdReserved17 0) (withPnsc p1End) = some 0 := by decide
theorem test_rd_reserved18 : answer (.rdReserved18 0) (withPnsc p1End) = some 0 := by decide
theorem test_rd_reserved19 : answer (.rdReserved19 0) (withPnsc p1End) = some 0 := by decide
theorem test_rd_reserved1A : answer (.rdReserved1A 0) (withPnsc p1End) = some 0 := by decide
theorem test_rd_reserved1B : answer (.rdReserved1B 0) (withPnsc p1End) = some 0 := by decide
theorem test_rd_reserved1C : answer (.rdReserved1C 0) (withPnsc p1End) = some 0 := by decide
theorem test_rd_reserved1D : answer (.rdReserved1D 0) (withPnsc p1End) = some 0 := by decide
theorem test_rd_reserved1E : answer (.rdReserved1E 0) (withPnsc p1End) = some 0 := by decide
theorem test_rd_reserved1F : answer (.rdReserved1F 0) (withPnsc p1End) = some 0 := by decide

/-! ### Constants -/

/-- R223: values of the envelope under P0. -/
theorem test_env :
    env Config.p0 10 = 65535 ∧ env Config.p0 11 = 62339 ∧ env Config.p0 12 = 59298 ∧ env Config.p0 50 = 8862 := by decide

/-- R163: the first draws that flip for the codes 1, 64, 128 and 254. -/
theorem test_flip_thresholds :
    flips 1 257 = false ∧ flips 1 258 = true ∧ flips 64 16448 = false ∧ flips 64 16449 = true ∧
    flips 128 32896 = false ∧ flips 128 32897 = true ∧ flips 254 65278 = false ∧ flips 254 65279 = true := by decide

/-- R50: what reset leaves, where the spec gives the value. -/
theorem test_reset_values :
    (afterReset 0xACE1 0x1234 7).pnsc.ch1.R = 0xACE1 ∧ (afterReset 0xACE1 0x1234 7).pnsc.lastTap = 7 ∧
    State.reset.pnsc.interval = 500 ∧ State.reset.pnsc.len = 16 ∧ State.reset.pnsc.lenIdx = 7 ∧ State.reset.pnsc.div = 1 := by
  decide

/-- R322: the host's time may stand still, go on, and not go back. -/
theorem test_host_keeps_time :
    hostKeepsTime 5 [.access (.command 0x00000000000000050000000000000009), .access (.read 0 5)] = true ∧
    hostKeepsTime 5 [.access (.command 0x00000000000000040000000000000009)] = false := by decide

/-! ### Witnesses: for each statement with hypotheses, states and operands that meet them (each clause by name) -/

/-- The tick of R260's worked example, with the divider knob and the clock sample as arguments. -/
def tickWith (clk ky : Byte) : Instr := .tick 1 clk 0 255 ky 255 16 0x8000 0x8000

/-- A configuration whose steady-state display is not the reference one. -/
def openDisplay : Config := { Config.p0 with steady := .other 0 }

theorem witness_CommandBytesAreLittleEndian :
    ([] : List Byte).length < 16 ∧ (List.replicate 15 (0 : Byte)).length < 16 ∧ 16 < (List.replicate 17 (0 : Byte)).length := by
  decide

/-- A line whose pairs stand in another order, with fields at the ends of their ranges, one the command does not read
(`now`), one it reads and the line omits (`sc`, in the second line); and a read at the last time. -/
theorem witness_AssemblerLineGivesItsWord :
    (AsmLine.cmd .QUANT [(.sc, 7), (.clk, 255), (.now, 2 ^ 32 - 1)]).wellFormed = true ∧
    [(Field.sc, 7), (.clk, 255), (.now, 2 ^ 32 - 1)].Perm [(.clk, 255), (.sc, 7), (.now, 2 ^ 32 - 1)] ∧
    (Field.sc, 7) ∈ [(Field.sc, 7), (.clk, 255), (.now, 2 ^ 32 - 1)] ∧ Field.sc ∈ Mnemonic.QUANT.reads ∧
    Field.now ∉ Mnemonic.QUANT.reads ∧
    (AsmLine.cmd .QUANT [(.clk, 0)]).wellFormed = true ∧ Field.sc ∉ [(Field.clk, 0)].map Prod.fst ∧
    (AsmLine.rd 0x12 (2 ^ 32 - 1)).wellFormed = true :=
  ⟨by decide, .swap _ _ _, by decide, by decide, by decide, by decide, by decide, by decide⟩

theorem witness_StepRunsTheDecodedInstruction :
    (presentNext (.access (.command 6)) State.reset).inputs = [.access (.command 6)] ∧
    (presentNext (.reset resetInputsZero) State.reset).inputs = [.reset resetInputsZero] ∧ State.reset.inputs = [] :=
  ⟨rfl, rfl, rfl⟩

theorem legal_reset : LegalState State.reset :=
  { config := by decide
    registers :=
      { lenAtIndex := by decide, divInTable := by decide, scaleInRom := by decide, intervalLow := by decide,
        intervalHigh := by decide } }

theorem witness_StepKeepsLegalState :
    LegalState (presentNext (.access (encode (tickWith 200 0))) State.reset) ∧
    (∃ t, step (presentNext (.access (encode (tickWith 200 0))) State.reset) = .next t) ∧
    LegalState (presentNext (.reset resetInputsZero) State.reset) ∧
    ∃ t, step (presentNext (.reset resetInputsZero) State.reset) = .next t :=
  ⟨⟨legal_reset.config, legal_reset.registers⟩, ⟨_, rfl⟩, ⟨legal_reset.config, legal_reset.registers⟩, ⟨_, rfl⟩⟩

theorem witness_ResetIsLegal : Config.p0.wellFormed = true ∧ openDisplay.wellFormed = true := by decide

theorem witness_ResetEventAssignsTheStatedValues :
    (presentNext (.reset resetInputsZero) State.reset).cfg.wellFormed = true ∧
    (presentNext (.reset resetInputsZero) State.reset).inputs = .reset resetInputsZero :: [] :=
  ⟨by decide, rfl⟩

/-- Each column of the table of R129 at the ends of its range: not plugged 124 and 132, low 0, 123, 133 and 139, middle
140 and 160, high 161 and 255. -/
theorem witness_ClkrecFollowsTheTransitionTable :
    State.reset.cfg.thresholdLow < State.reset.cfg.thresholdHigh ∧
    plugged Config.p0 124 = false ∧ plugged Config.p0 132 = false ∧
    (∀ v ∈ [0, 123, 133, 139], plugged Config.p0 v = true ∧ v.toNat < Config.p0.thresholdLow) ∧
    (∀ v ∈ [140, 160], plugged Config.p0 v = true ∧ Config.p0.thresholdLow ≤ v.toNat ∧ v.toNat ≤ Config.p0.thresholdHigh) ∧
    ∀ v ∈ [161, 255], plugged Config.p0 v = true ∧ Config.p0.thresholdHigh < v.toNat := by
  decide

theorem witness_HysteresisPreventsTriggers :
    (∀ v ∈ [(0 : Byte), 128, 150, 160], v.toNat ≤ State.reset.cfg.thresholdHigh) ∧
    (withPnsc { seeded with clkState := .high }).pnsc.clkState = .high ∧
    ∀ v ∈ [(140 : Byte), 160, 161, 255], plugged State.reset.cfg v = true ∧ State.reset.cfg.thresholdLow ≤ v.toNat := by
  decide

/-- The gaps 100 and 2000, the second across the wrap of the time. -/
theorem witness_TwoTapEdgesSetTheInterval :
    (0 : BitVec 2).toNat = State.reset.cfg.tapPos ∧ (1 : BitVec 2).toNat ≠ State.reset.cfg.tapPos ∧
    (3 : BitVec 2).toNat ≠ State.reset.cfg.tapPos ∧ elapsed 300 200 = 100 ∧ elapsed 1000 0xFFFFFC18 = 2000 := by
  decide

/-- Every stamp in use, of ages 0 and 2^32 - 1, the time having wrapped. -/
theorem witness_FreshStampsMeasureTrueTime :
    StampsInUseFresh (2 ^ 32 + 5) { lastTap := 6, lastTrig := 2 ^ 32 + 5, lenTime := 6, ptime1 := 2 ^ 32 + 5, ptime2 := 6 }
      { seeded with
        lastTap := 6, lastTrig := 5, lenTime := 6, disp := true
        ch1 := { seeded.ch1 with act := true, ptime := 5 }
        ch2 := { seeded.ch2 with act := true, ptime := 6 } } :=
  { lastTap := by decide, lastTrig := by decide, lenTime := fun _ => by decide, ptime1 := fun _ => by decide
    ptime2 := fun _ => by decide }

/-- Lengths 1 and 16, at the ends of the ranges in which the low byte and the whole register repeat. -/
theorem witness_LockedLoopIsPeriodic :
    0 + ((0 : BitVec 4).toNat + 1) ≤ (List.replicate 1 (0 : Draw)).length ∧
    7 + ((0 : BitVec 4).toNat + 1) ≤ (List.replicate 8 (0 : Draw)).length ∧ 8 ≤ 7 + ((0 : BitVec 4).toNat + 1) ∧
    0 + ((15 : BitVec 4).toNat + 1) ≤ (List.replicate 16 (0 : Draw)).length ∧ 16 ≤ 0 + ((15 : BitVec 4).toNat + 1) := by
  decide

theorem witness_FlippedLoopAlternates :
    0 + ((15 : BitVec 4).toNat + 1) ≤ (List.replicate 16 (0 : Draw)).length ∧ 16 ≤ 0 + ((15 : BitVec 4).toNat + 1) ∧
    15 + ((0 : BitVec 4).toNat + 1) ≤ (List.replicate 16 (0 : Draw)).length ∧ 16 ≤ 15 + ((0 : BitVec 4).toNat + 1) := by
  decide

theorem witness_LockedFullLengthTickRotates :
    224 ≤ (255 : Byte).toNat ∧ 224 ≤ (224 : Byte).toNat ∧
    ∃ t, exec (tickWith 200 0) (withPnsc seeded) = .next t ∧ t.pnsc.result.getLsbD 0 = true ∧ t.pnsc.result.getLsbD 3 = true :=
  ⟨by decide, by decide, _, rfl, by decide, by decide⟩

/-- Divisors 1 and 16. -/
theorem witness_DivtickCounts :
    1 ≤ State.reset.pnsc.div.toNat ∧ State.reset.pnsc.div.toNat ≤ 16 ∧
    1 ≤ (withPnsc { seeded with div := 16 }).pnsc.div.toNat ∧ (withPnsc { seeded with div := 16 }).pnsc.div.toNat ≤ 16 := by
  decide

theorem witness_DivtickSignalsEveryNth :
    1 ≤ (withPnsc { seeded with div := 16 }).pnsc.div.toNat ∧ (withPnsc { seeded with div := 16 }).pnsc.div.toNat ≤ 16 ∧
    (withPnsc { seeded with div := 16 }).pnsc.divCnt.toNat = 0 ∧ 15 < 16 := by
  decide

theorem witness_QuantReportsTheNote : State.reset.cfg.wellFormed = true := by decide

theorem witness_NotesFitTheirFields : Config.p0.wellFormed = true := by decide

theorem witness_EmitWritesTheOutputs : (withPnsc p1End).cfg.wellFormed = true := by decide

/-- Every scale of P0, the fallback included; `SCALE_ROM` of P0 has scales. -/
theorem witness_PitchRisesWithTheByte :
    (∀ si ∈ [(-1 : Int), 0, 1, 2, 3, 4, 5, 6, 7],
      (scaleOf Config.p0 si).Pairwise (· < ·) ∧ ∀ x ∈ scaleOf Config.p0 si, x < 12) ∧
    (0 : Byte).toNat ≤ (255 : Byte).toNat ∧ [0, 1, 3, 7, 8] ∈ Config.p0.scaleRom ∧ 8 ∈ [0, 1, 3, 7, 8] := by
  decide

/-- The age 10 is in the hold and starts the decay. -/
theorem witness_EnvelopeDecaysToZero :
    Config.p0.pulseK ≤ 65535 ∧ 10 ≤ Config.p0.pulseHold ∧ Config.p0.pulseHold ≤ 10 ∧
    Config.p0.pulseHold + 65535 ≤ 65545 := by
  decide

theorem witness_PulseReadFollowsTheEnvelope : State.reset.cfg.pulseK ≤ 65535 := by decide

theorem witness_ActiveFlagIsNeverCleared :
    (∃ t, exec (.emit .ch2 0) (withPnsc p1End) = .next t) ∧ ((withPnsc p1End).pnsc.chan .ch1).act = true ∧
    triggersPulse .ch1 (.emit .ch2 0) = false :=
  ⟨⟨_, rfl⟩, by decide, by decide⟩

/-- The reference display, an open window (a length change), and an open display with the window closed. -/
theorem witness_TickEqualsComposedUnitCommands :
    State.reset.cfg.steady = .reference ∧
    (composedTick openDisplay 1 128 0 0 0 0 16 0 0 seeded).dispwin = true ∧
    openDisplay.steady = .other 0 ∧ (composedTick openDisplay 1 128 0 255 0 0 16 0 0 seeded).dispwin = false := by
  decide

theorem witness_PluggedTickLeavesTapTempo :
    plugged State.reset.cfg 200 = true ∧ plugged State.reset.cfg 133 = true ∧ plugged State.reset.cfg 132 = false := by
  decide

theorem witness_OneTriggerSourcePerTick :
    (clockStep State.reset.cfg State.reset.pnsc.clkState 161).2 = true ∧
    ∃ t, exec (tickWith 200 0) (withPnsc seeded) = .next t ∧ t.pnsc.result.getLsbD 3 = true :=
  ⟨by decide, _, rfl, by decide⟩

/-- A tick without a trigger, and one that triggers but does not advance channel 2. -/
theorem witness_TickWithoutTriggerKeepsTheChannels :
    (∃ t, exec (tickWith 100 0) (withPnsc seeded) = .next t ∧ t.pnsc.result.getLsbD 0 = false) ∧
    ∃ t, exec (tickWith 200 100) (withPnsc seeded) = .next t ∧ t.pnsc.result.getLsbD 0 = true ∧
      t.pnsc.result.getLsbD 3 = false :=
  ⟨⟨_, rfl, by decide⟩, _, rfl, by decide, by decide⟩

theorem witness_UnusedDrawsDoNotMatter :
    (∃ t, exec (tickWith 100 0) (withPnsc seeded) = .next t ∧ t.pnsc.result.getLsbD 0 = false) ∧
    ∃ t, exec (tickWith 200 100) (withPnsc seeded) = .next t ∧ t.pnsc.result.getLsbD 3 = false :=
  ⟨⟨_, rfl, by decide⟩, _, rfl, by decide⟩

/-- Registers whose length-changed window opened at time 1000. -/
def windowAt1000 : Pnsc := { seeded with disp := true, lenTime := 1000 }

/-- The last time inside the window, the first one outside it, and an open display. -/
theorem witness_DisplayShowsPatternOrSteady :
    (windowAt1000.disp && decide (elapsed 2499 windowAt1000.lenTime < 1500)) = true ∧
    (windowAt1000.disp && decide (elapsed 2500 windowAt1000.lenTime < 1500)) = false ∧
    (withPnsc seeded).cfg.steady = .reference ∧ { withPnsc seeded with cfg := openDisplay }.cfg.steady = .other 0 := by
  decide

theorem witness_NopAndReservedDoNothing :
    (0xFFFFFFFFFFFFFFFFFFFFFFFFFFFFFFF0 : CmdWord).toNat % 16 = 0 ∧ 11 ≤ (11 : CmdWord).toNat % 16 ∧
    11 ≤ (0xFFFFFFFFFFFFFFFFFFFFFFFFFFFFFFFF : CmdWord).toNat % 16 := by
  decide

theorem witness_ReservedReadsReturnZero : 0x13 ≤ (0x13 : ReadAddr).toNat ∧ 0x13 ≤ (0x1F : ReadAddr).toNat := by decide

theorem witness_ReadsChangeNoRegister : (0x08 : ReadAddr) ≠ 0x09 ∧ (0x0B : ReadAddr) ≠ 0x0A ∧ (0x08 : ReadAddr) ≠ 0x0A := by
  decide

theorem witness_RegistersAreWrittenOnlyByTheStep :
    (∃ t, exec (.srstep .ch2 255 15 0) State.reset = .next t) ∧ stepsRegister .ch1 (.srstep .ch2 255 15 0) = false ∧
    stepsRegister .ch1 (.emit .ch1 0) = false :=
  ⟨⟨_, rfl⟩, by decide, by decide⟩

/-- The second clause with an `EMIT` and a `TICK` that change the outputs. -/
theorem witness_OutputsAreWrittenOnlyByEmit :
    (∃ t, exec (.ptrig .ch1 0) State.reset = .next t) ∧ emitsOn .ch1 (.ptrig .ch1 0) = false ∧
    (∃ t, exec (.emit .ch1 304) (withPnsc seeded) = .next t ∧
      (t.pnsc.chan .ch1).M ≠ ((withPnsc seeded).pnsc.chan .ch1).M) ∧
    ∃ t, exec (tickWith 200 0) (withPnsc seeded) = .next t ∧ (t.pnsc.chan .ch2).S ≠ ((withPnsc seeded).pnsc.chan .ch2).S :=
  ⟨⟨_, rfl⟩, by decide, ⟨_, rfl, by decide⟩, _, rfl, by decide⟩

theorem witness_ClockAndTapStateHaveTheirWriters :
    (∃ t, exec (.taptmp 1 7) State.reset = .next t) ∧ runsClockRecovery (.taptmp 1 7) = false ∧
    (∃ t, exec (.clkrec 161) State.reset = .next t) ∧ runsTapTempo (.clkrec 161) = false :=
  ⟨⟨_, rfl⟩, by decide, ⟨_, rfl⟩, by decide⟩

theorem witness_SelectionDividerAndDisplayHaveTheirWriters :
    (∃ t, exec .divtick State.reset = .next t) ∧ runsResolve .divtick = false ∧ runsDisplay .divtick = false ∧
    (∃ t, exec (.display 7) State.reset = .next t) ∧ runsDivider (.display 7) = false ∧
    (withPnsc { seeded with disp := true }).pnsc.disp = true :=
  ⟨⟨_, rfl⟩, by decide, by decide, ⟨_, rfl⟩, by decide, rfl⟩

theorem witness_ResultIsOverwrittenWhole :
    (∃ t, exec (.ptrig .ch1 0) State.reset = .next t) ∧ writesResult (.ptrig .ch1 0) = true ∧
    (∃ t, exec .nop State.reset = .next t) ∧ writesResult .nop = false :=
  ⟨⟨_, rfl⟩, by decide, ⟨_, rfl⟩, by decide⟩

theorem witness_StepsKeepTheConfiguration :
    (∃ t, exec .divtick State.reset = .next t) ∧
    ∃ t, step (presentNext (.reset resetInputsZero) State.reset) = .next t :=
  ⟨⟨_, rfl⟩, _, rfl⟩

theorem witness_FirstFreeRunningTriggerAfterReset :
    State.reset.cfg.wellFormed = true ∧ plugged State.reset.cfg 124 = false ∧ plugged State.reset.cfg 132 = false := by decide

theorem witness_HeldSelectorMakesOneEdgeOnly : (0 : BitVec 2).toNat = State.reset.cfg.tapPos := by decide

theorem witness_AnExpiredWindowStaysClosed :
    (∃ t, exec (.display 2500) (withPnsc windowAt1000) = .next t ∧ t.pnsc.result.getLsbD 7 = false) ∧
    ∀ i ∈ [Instr.nop, .emit .ch1 2600, .display 2700], runsResolve i = false :=
  ⟨⟨_, rfl, by decide⟩, by decide⟩

end Sys2Proof.Tests
end

section
/-! PROOFS. The state of PNSC (10_state.md): what a step, an instruction and a shared operation can do to the registers,
each said once, and the statements about legal states, writers and reads that follow. -/

namespace Sys2Proof.Machine

/-! ### What a step can do -/

/-- Inversion of a step: it idles, runs the next access's instruction, or resets (R299, R310, R320). -/
theorem step_cases {s t : State} (h : step s = .next t) :
    (s.inputs = [] ∧ t = s) ∨
    (∃ x rest, s.inputs = .access x :: rest ∧ exec (decode x) { s with inputs := rest } = .next t) ∨
    (∃ r rest, s.inputs = .reset r :: rest ∧ t = resetEvent r { s with inputs := rest }) := by
  unfold step takeInput at h
  split at h
  next hnil => exact .inl ⟨hnil, (Host.Outcome.next.inj h).symm⟩
  next x rest hcons =>
    cases x with
    | access x => exact .inr (.inl ⟨x, rest, hcons, h⟩)
    | reset r => exact .inr (.inr ⟨r, rest, hcons, (Host.Outcome.next.inj h).symm⟩)

/-- An instruction writes neither the configuration nor the queue of inputs (R36). -/
theorem exec_keeps_cfg_inputs {i : Instr} {s t : State} (h : exec i s = .next t) :
    t.cfg = s.cfg ∧ t.inputs = s.inputs := by
  cases i <;> (obtain rfl := Host.Outcome.next.inj h; exact ⟨rfl, rfl⟩)

/-! ### What each shared operation can do -/

/-- What `resolve` can write (R247, R250): perhaps the window, and selections taken from the tables. -/
theorem resolve_selects (c : Config) (sel : BitVec 2) (mod kx ky : Byte) (now : Time) (p : Pnsc) :
    ∃ q l li d si, (q = p ∨ q = p.openWindow now) ∧ (resolve c sel mod kx ky now p).2 = q.setSelection l li d si ∧
      lengths[li.toNat]? = some l.toNat ∧ d.toNat ∈ divisors ∧ si.toNat ≤ 6 := by
  refine ⟨_, _, _, _, _, ?_, resolve_pnsc c p sel mod kx ky now, ?_, ?_, ?_⟩
  · exact (ite_eq_or_eq _ _ _).symm
  · have hli := lengthIndex_le kx
    have hrange := lengthOf_range hli
    rw [BitVec.toNat_ofNat, BitVec.toNat_ofNat, storedLengthIndex, if_pos hli, Nat.mod_eq_of_lt (by omega),
      Nat.mod_eq_of_lt (by omega)]
    exact lengthOf_at hli
  · have hdi := divisorIndex_le c ky mod
    have hrange := divisorOf_range hdi
    rw [BitVec.toNat_ofNat, Nat.mod_eq_of_lt (by omega)]
    exact divisorOf_mem hdi
  · have hsi := scaleIndex_le c sel
    rw [BitVec.toNat_ofNat]
    omega

/-- A pulse trigger changes nothing but its channel (R221). -/
theorem ptrig_pnsc (ch : Channel) (now : Time) (p : Pnsc) :
    ptrig ch now p = p.setChan ch { p.chan ch with act := true, ptime := now } := rfl

@[simp] theorem resolve_chan (c : Config) (sel : BitVec 2) (mod kx ky : Byte) (now : Time) (p : Pnsc) (ch : Channel) :
    (resolve c sel mod kx ky now p).2.chan ch = p.chan ch := by
  obtain ⟨q, l, li, d, si, rfl | rfl, e, -⟩ := resolve_selects c sel mod kx ky now p <;> simp [e]

@[simp] theorem tap_chan (c : Config) (sel : BitVec 2) (now : Time) (p : Pnsc) (ch : Channel) :
    (tap c sel now p).2.chan ch = p.chan ch :=
  p.chan_setTap _ _ _ ch

@[simp] theorem display_chan (c : Config) (now : Time) (p : Pnsc) (ch : Channel) :
    (display c now p).2.chan ch = p.chan ch :=
  p.chan_setDisplay _ _ ch

@[simp] theorem divtick_chan (p : Pnsc) (ch : Channel) : (divtick p).2.chan ch = p.chan ch := by
  obtain ⟨n, e⟩ := divtick_pnsc p
  simp [e]

@[simp] theorem triggerPhase_chan (c : Config) (sel : BitVec 2) (clk : Byte) (now : Time) (p : Pnsc) (ch : Channel) :
    (triggerPhase c sel clk now p).2.chan ch = p.chan ch := by
  rcases triggerPhase_cases c p sel clk now with ⟨-, e⟩ | ⟨-, e⟩ <;> simp [e]

/-! ### What an instruction can do to the registers -/

/-- The registers `q` that an instruction can leave behind when it starts from `p` (the "State written" clauses of the
commands); the word `r` written to `RESULT` is left open here. -/
inductive RegEffect (c : Config) (p : Pnsc) : Instr → Pnsc → Prop
  /-- Reads, `NOP` and the reserved opcodes (R40, R280). -/
  | unchanged {i : Instr} (hi : writesResult i = false) : RegEffect c p i p
  | tick (sel : BitVec 2) (clk mod kx ky km : Byte) (now : Time) (r1 r2 : Draw) (trig : Bool) (r : BitVec 32) :
      RegEffect c p (.tick sel clk mod kx ky km now r1 r2)
        ((display c now (advancePhase c trig (probabilityOf km) r1 r2 now
          (triggerPhase c sel clk now (resolve c sel mod kx ky now p).2).2).2).2.setResult r)
  | resolve (sel : BitVec 2) (mod kx ky km : Byte) (now : Time) (r : BitVec 32) :
      RegEffect c p (.resolve sel mod kx ky km now) ((resolve c sel mod kx ky now p).2.setResult r)
  | clkrec (clk : Byte) (st : ClkState) (r : BitVec 32) :
      RegEffect c p (.clkrec clk) ((p.setClock st clk).setResult r)
  | taptmp (sel : BitVec 2) (now : Time) (r : BitVec 32) :
      RegEffect c p (.taptmp sel now) (((tap c sel now p).2.setPrevSel sel).setResult r)
  | srstep (ch : Channel) (km : Byte) (lm1 : BitVec 4) (r1 : Draw) (R : BitVec 16) (r : BitVec 32) :
      RegEffect c p (.srstep ch km lm1 r1) ((p.setR ch R).setResult r)
  | divtick (r : BitVec 32) : RegEffect c p .divtick ((divtick p).2.setResult r)
  | quant (clk : Byte) (sc : BitVec 3) (r : BitVec 32) : RegEffect c p (.quant clk sc) (p.setResult r)
  | emit (ch : Channel) (now : Time) (r : BitVec 32) :
      RegEffect c p (.emit ch now) ((emit c ch now p).2.setResult r)
  | ptrig (ch : Channel) (now : Time) (r : BitVec 32) : RegEffect c p (.ptrig ch now) ((ptrig ch now p).setResult r)
  | display (now : Time) (r : BitVec 32) : RegEffect c p (.display now) ((display c now p).2.setResult r)

/-- Inversion of `exec`: its registers are the stated effect of the instruction. -/
theorem exec_regEffect {i : Instr} {s t : State} (h : exec i s = .next t) : RegEffect s.cfg s.pnsc i t.pnsc := by
  cases i with
  | tick sel clk mod kx ky km now r1 r2 => obtain rfl := Host.Outcome.next.inj h; exact .tick ..
  | resolve sel mod kx ky km now => obtain rfl := Host.Outcome.next.inj h; exact .resolve ..
  | clkrec clk => obtain rfl := Host.Outcome.next.inj h; exact .clkrec ..
  | taptmp sel now => obtain rfl := Host.Outcome.next.inj h; exact .taptmp ..
  | srstep ch km lm1 r1 => obtain rfl := Host.Outcome.next.inj h; exact .srstep ..
  | divtick => obtain rfl := Host.Outcome.next.inj h; exact .divtick ..
  | quant clk sc => obtain rfl := Host.Outcome.next.inj h; exact .quant ..
  | emit ch now => obtain rfl := Host.Outcome.next.inj h; exact .emit ..
  | ptrig ch now => obtain rfl := Host.Outcome.next.inj h; exact .ptrig ..
  | display now => obtain rfl := Host.Outcome.next.inj h; exact .display ..
  | _ => obtain rfl := Host.Outcome.next.inj h; exact .unchanged rfl

/-! ### Legal registers -/

/-- Legality speaks of the selections and the interval only. -/
theorem LegalPnsc.congr {p q : Pnsc} (h : LegalPnsc p) (hlen : q.len = p.len := by simp)
    (hidx : q.lenIdx = p.lenIdx := by simp) (hdiv : q.div = p.div := by simp)
    (hscale : q.scaleIdx = p.scaleIdx := by simp) (hint : q.interval = p.interval := by simp) : LegalPnsc q where
  lenAtIndex := by rw [hlen, hidx]; exact h.lenAtIndex
  divInTable := by rw [hdiv]; exact h.divInTable
  scaleInRom := by rw [hscale]; exact h.scaleInRom
  intervalLow := by rw [hint]; exact h.intervalLow
  intervalHigh := by rw [hint]; exact h.intervalHigh

theorem LegalPnsc.resolve {p : Pnsc} (h : LegalPnsc p) (c : Config) (sel : BitVec 2) (mod kx ky : Byte) (now : Time) :
    LegalPnsc (resolve c sel mod kx ky now p).2 := by
  obtain ⟨q, l, li, d, si, hq, e, hlen, hdiv, hscale⟩ := resolve_selects c sel mod kx ky now p
  have hint : q.interval = p.interval := by rcases hq with rfl | rfl <;> simp
  rw [e]
  exact ⟨hlen, hdiv, hscale, hint ▸ h.intervalLow, hint ▸ h.intervalHigh⟩

/-- The interval stays in `T_MIN..T_MAX`, because only an accepted gap is stored (R143). -/
theorem LegalPnsc.tap {p : Pnsc} (h : LegalPnsc p) (c : Config) (sel : BitVec 2) (now : Time) :
    LegalPnsc (tap c sel now p).2 := by
  obtain ⟨iv, lt, lg, e, rfl | ⟨hgap, rfl⟩, -, -⟩ := tap_pnsc c p sel now
  · rw [e]
    exact h.congr
  · obtain ⟨hlow, hhigh⟩ := gapAccepted_range hgap
    have hfits : (BitVec.ofNat 11 (tdiff now p.lastTap).toNat).toNat = (tdiff now p.lastTap).toNat := by
      rw [BitVec.toNat_ofNat]
      exact Nat.mod_eq_of_lt (hhigh.trans_lt (by decide))
    rw [e]
    exact ⟨h.lenAtIndex, h.divInTable, h.scaleInRom, hlow.trans_eq hfits.symm, hfits.trans_le hhigh⟩

theorem LegalPnsc.divtick {p : Pnsc} (h : LegalPnsc p) : LegalPnsc (divtick p).2 := by
  obtain ⟨n, e⟩ := divtick_pnsc p
  rw [e]
  exact h.congr

theorem LegalPnsc.display {p : Pnsc} (h : LegalPnsc p) (c : Config) (now : Time) : LegalPnsc (display c now p).2 := by
  rw [display_pnsc]
  exact h.congr

theorem LegalPnsc.advance {p : Pnsc} (h : LegalPnsc p) (c : Config) (ch : Channel) (prob : Byte) (r : Draw)
    (now : Time) : LegalPnsc (advance c ch prob r now p) := by
  rw [advance_pnsc]
  exact h.congr

theorem LegalPnsc.triggerPhase {p : Pnsc} (h : LegalPnsc p) (c : Config) (sel : BitVec 2) (clk : Byte) (now : Time) :
    LegalPnsc (triggerPhase c sel clk now p).2 := by
  rcases triggerPhase_cases c p sel clk now with ⟨-, e⟩ | ⟨-, e⟩
  · rw [e]
    exact h.congr
  · have hclock : LegalPnsc (p.setClock .unplugged clk) := h.congr
    rw [e]
    exact (hclock.tap c sel now).congr

theorem LegalPnsc.advancePhase {p : Pnsc} (h : LegalPnsc p) (c : Config) (trig : Bool) (prob : Byte) (r1 r2 : Draw)
    (now : Time) : LegalPnsc (advancePhase c trig prob r1 r2 now p).2 := by
  cases trig with
  | false => exact h
  | true =>
    have hdiv := (h.advance c .ch1 prob r1 now).divtick
    rw [advancePhase_trig]
    split
    · exact hdiv.advance c .ch2 prob r2 now
    · exact hdiv

/-- Every instruction keeps the registers legal, under any configuration (R28, R29). -/
theorem RegEffect.legal {c : Config} {i : Instr} {p q : Pnsc} (e : RegEffect c p i q) (h : LegalPnsc p) :
    LegalPnsc q := by
  cases e with
  | unchanged => exact h
  | tick sel clk mod kx ky km now r1 r2 trig r =>
    have hb := (h.resolve c sel mod kx ky now).triggerPhase c sel clk now
    exact ((hb.advancePhase c trig (probabilityOf km) r1 r2 now).display c now).congr
  | resolve sel mod kx ky km now => exact (h.resolve c sel mod kx ky now).congr
  | clkrec => exact h.congr
  | taptmp sel now => exact (h.tap c sel now).congr
  | srstep => exact h.congr
  | divtick => exact h.divtick.congr
  | quant => exact h.congr
  | emit => rw [emit_pnsc]; exact h.congr
  | ptrig => rw [ptrig_pnsc]; exact h.congr
  | display now => exact (h.display c now).congr

/-- `TAP_INTERVAL_RESET` lies in `T_MIN..T_MAX` (R9). -/
theorem tapIntervalReset_range {c : Config} (h : c.wellFormed = true) :
    tMin ≤ c.tapIntervalReset ∧ c.tapIntervalReset ≤ tMax := by
  simp only [Config.wellFormed, Config.tapIntervalOk, Bool.and_eq_true, decide_eq_true_eq] at h
  obtain ⟨⟨-, hrange⟩, -⟩ := h
  exact hrange

/-- The registers after a reset event are legal (R50). -/
theorem pnscReset_legal {c : Config} (h : c.wellFormed = true) (r : ResetInputs) : LegalPnsc (pnscReset c r) := by
  obtain ⟨hlow, hhigh⟩ := tapIntervalReset_range h
  have hfits : (pnscReset c r).interval.toNat = c.tapIntervalReset := by
    rw [pnscReset, BitVec.toNat_ofNat]
    exact Nat.mod_eq_of_lt (hhigh.trans_lt (by decide))
  exact ⟨rfl, (by decide : 1 ∈ divisors), Nat.zero_le 6, hlow.trans_eq hfits.symm, hfits.trans_le hhigh⟩

/-- Settles O10: by what a step can do; each instruction and the reset event keep the registers legal. -/
theorem stepKeepsLegalState : Obligations.StepKeepsLegalState := by
  intro s t ⟨hcfg, hregs⟩ hstep
  rcases step_cases hstep with ⟨-, rfl⟩ | ⟨x, rest, -, hexec⟩ | ⟨r, rest, -, rfl⟩
  · exact ⟨hcfg, hregs⟩
  · exact ⟨(exec_keeps_cfg_inputs hexec).1 ▸ hcfg, (exec_regEffect hexec).legal hregs⟩
  · exact ⟨hcfg, pnscReset_legal hcfg r⟩

/-- Settles O11: `State.reset` is the reset event with zero inputs under P0, whose constraints are decidable. -/
theorem resetIsLegal : Obligations.ResetIsLegal :=
  have hp0 : Config.p0.wellFormed = true := by decide
  ⟨⟨hp0, pnscReset_legal hp0 _⟩, fun _ r hc => pnscReset_legal hc r⟩

/-- Settles O53: an instruction keeps both fields, a reset event and the idle step touch neither. -/
theorem stepsKeepTheConfiguration : Obligations.StepsKeepTheConfiguration := by
  refine ⟨fun i s t h => exec_keeps_cfg_inputs h, fun s t hstep => ?_⟩
  rcases step_cases hstep with ⟨hin, rfl⟩ | ⟨x, rest, hin, hexec⟩ | ⟨r, rest, hin, rfl⟩
  · simp [hin]
  · simpa [hin] using exec_keeps_cfg_inputs hexec
  · simp [hin]

end Sys2Proof.Machine
end

section
/-! PROOFS. Who writes which register (the "written only by" sentences of R22 and R26 to R35). -/

namespace Sys2Proof.Machine

/-! ### What an instruction can do to a channel -/

/-- An advance or an emission at `now` leaves a channel alone or triggers its pulse (R200, R222). -/
def KeptOrTriggered (now : Time) (x y : ChanState) : Prop := y = x ∨ (y.act = true ∧ y.ptime = now)

theorem KeptOrTriggered.trans {now : Time} {x y z : ChanState} (hxy : KeptOrTriggered now x y)
    (hyz : KeptOrTriggered now y z) : KeptOrTriggered now x z := by
  rcases hyz with rfl | hz
  · exact hxy
  · exact .inr hz

theorem advance_keptOrTriggered (c : Config) (ch : Channel) (prob : Byte) (r : Draw) (now : Time) (p : Pnsc)
    (d : Channel) : KeptOrTriggered now (p.chan d) ((advance c ch prob r now p).chan d) := by
  rw [advance_pnsc]
  rcases eq_or_ne d ch with rfl | hd
  · rw [Pnsc.chan_setChan_same]
    exact .inr ⟨rfl, rfl⟩
  · exact .inl (p.chan_setChan_other hd _)

theorem advancePhase_keptOrTriggered (c : Config) (trig : Bool) (prob : Byte) (r1 r2 : Draw) (now : Time) (p : Pnsc)
    (d : Channel) : KeptOrTriggered now (p.chan d) ((advancePhase c trig prob r1 r2 now p).2.chan d) := by
  cases trig with
  | false => exact .inl rfl
  | true =>
    have hfirst : KeptOrTriggered now (p.chan d) ((divtick (advance c .ch1 prob r1 now p)).2.chan d) := by
      rw [divtick_chan]
      exact advance_keptOrTriggered ..
    rw [advancePhase_trig]
    split
    · exact hfirst.trans (advance_keptOrTriggered ..)
    · exact hfirst

/-- The record `y` that an instruction can leave in channel `d` when it starts from `x` (R22, R31, R32). -/
inductive ChanEffect (i : Instr) (d : Channel) (x : ChanState) : ChanState → Prop
  | kept : ChanEffect i d x x
  | stepped (R : BitVec 16) (hi : stepsRegister d i = true) : ChanEffect i d x { x with R := R }
  | triggered (now : Time) (hi : triggersPulse d i = true) (hnow : commandTime i = some now) :
      ChanEffect i d x { x with act := true, ptime := now }
  | emitted (y : ChanState) (hi : emitsOn d i = true) (hreg : stepsRegister d i = true ∨ y.R = x.R)
      (hact : y.act = true) (hnow : commandTime i = some y.ptime) : ChanEffect i d x y

/-- Replacing one channel's record leaves the other channel alone. -/
theorem ChanEffect.setChan {i : Instr} {ch : Channel} {p : Pnsc} {x : ChanState}
    (h : ChanEffect i ch (p.chan ch) x) (d : Channel) : ChanEffect i d (p.chan d) ((p.setChan ch x).chan d) := by
  rcases eq_or_ne d ch with rfl | hd
  · rw [Pnsc.chan_setChan_same]
    exact h
  · rw [p.chan_setChan_other hd]
    exact .kept

/-- Inversion of `exec` for one channel. -/
theorem exec_chanEffect {i : Instr} {s t : State} (h : exec i s = .next t) (d : Channel) :
    ChanEffect i d (s.pnsc.chan d) (t.pnsc.chan d) := by
  generalize t.pnsc = q, exec_regEffect h = e
  cases e with
  | unchanged => exact .kept
  | tick sel clk mod kx ky km now r1 r2 trig r =>
    have hphase := advancePhase_keptOrTriggered s.cfg trig (probabilityOf km) r1 r2 now
      (triggerPhase s.cfg sel clk now (resolve s.cfg sel mod kx ky now s.pnsc).2).2 d
    simp only [triggerPhase_chan, resolve_chan] at hphase
    rw [Pnsc.chan_setResult, display_chan]
    rcases hphase with hkept | ⟨hact, htime⟩
    · rw [hkept]
      exact .kept
    · exact .emitted _ rfl (.inl rfl) hact (congrArg some htime.symm)
  | resolve => simpa using ChanEffect.kept
  | clkrec => simpa using ChanEffect.kept
  | taptmp => simpa using ChanEffect.kept
  | srstep ch km lm1 r1 R r =>
    rw [Pnsc.chan_setResult, Pnsc.setR]
    apply ChanEffect.setChan
    exact .stepped R (decide_eq_true rfl)
  | divtick => simpa using ChanEffect.kept
  | quant => simpa using ChanEffect.kept
  | emit ch now r =>
    rw [Pnsc.chan_setResult, emit_pnsc]
    apply ChanEffect.setChan
    exact .emitted _ (decide_eq_true rfl) (.inr rfl) rfl rfl
  | ptrig ch now r =>
    rw [Pnsc.chan_setResult, ptrig_pnsc]
    apply ChanEffect.setChan
    exact .triggered now (decide_eq_true rfl) rfl
  | display => simpa using ChanEffect.kept

/-- Whatever emits on a channel triggers its pulse (R200). -/
theorem triggersPulse_of_emitsOn {d : Channel} {i : Instr} (h : emitsOn d i = true) : triggersPulse d i = true := by
  cases i with
  | ptrig => cases h
  | _ => exact h

/-- Settles O33: by what an instruction can do to the channel. -/
theorem activeFlagIsNeverCleared : Obligations.ActiveFlagIsNeverCleared := by
  intro i s t d h
  generalize s.pnsc.chan d = x, t.pnsc.chan d = y, exec_chanEffect h d = e
  cases e with
  | kept => exact ⟨id, fun _ => ⟨rfl, rfl⟩⟩
  | stepped => exact ⟨id, fun _ => ⟨rfl, rfl⟩⟩
  | triggered now hi => exact ⟨fun _ => rfl, fun hno => by simp [hi] at hno⟩
  | emitted _ hi _ hact => exact ⟨fun _ => hact, fun hno => by simp [triggersPulse_of_emitsOn hi] at hno⟩

/-- Settles O48: by what an instruction can do to the channel. -/
theorem registersAreWrittenOnlyByTheStep : Obligations.RegistersAreWrittenOnlyByTheStep := by
  intro i s t d h hno
  generalize s.pnsc.chan d = x, t.pnsc.chan d = y, exec_chanEffect h d = e
  cases e with
  | kept => rfl
  | stepped _ hi => simp [hi] at hno
  | triggered => rfl
  | emitted _ _ hreg => simpa [hno] using hreg

/-- Settles O49: by what an instruction can do to the channel; only an emission changes an output. -/
theorem outputsAreWrittenOnlyByEmit : Obligations.OutputsAreWrittenOnlyByEmit := by
  intro i s t d h
  generalize s.pnsc.chan d = x, t.pnsc.chan d = y, exec_chanEffect h d = e
  cases e with
  | kept => simp
  | stepped => simp
  | triggered => simp
  | emitted _ hi _ hact hnow => exact ⟨fun hno => by simp [hi] at hno, fun _ => ⟨hact, hnow⟩⟩

/-! ### The shared registers -/

/-- What a display can do to `disp`: it can only clear it (R273). -/
theorem disp_of_display_disp {c : Config} {now : Time} {p : Pnsc} (h : (display c now p).2.disp = true) :
    p.disp = true := by
  rw [display_pnsc, Pnsc.setDisplay_disp, windowOpen, Bool.and_eq_true] at h
  exact h.left

/-- Settles O50: each unit command writes the state of its own unit. -/
theorem clockAndTapStateHaveTheirWriters : Obligations.ClockAndTapStateHaveTheirWriters := by
  intro i s t h
  generalize t.pnsc = q, exec_regEffect h = e
  cases e with
  | unchanged => simp
  | tick => simp [runsClockRecovery, runsTapTempo]
  | resolve sel mod kx ky km now =>
    obtain ⟨q, l, li, d, si, rfl | rfl, e, -⟩ := resolve_selects s.cfg sel mod kx ky now s.pnsc <;> simp [e]
  | clkrec => simp [runsClockRecovery]
  | taptmp sel now =>
    obtain ⟨iv, lt, lg, e, -⟩ := tap_pnsc s.cfg s.pnsc sel now
    simp [e, runsTapTempo]
  | srstep => simp
  | divtick =>
    obtain ⟨n, e⟩ := divtick_pnsc s.pnsc
    simp [e]
  | quant => simp
  | emit => simp [emit_pnsc]
  | ptrig => simp [ptrig_pnsc]
  | display => simp [display_pnsc]

/-- Settles O51: each unit command writes the state of its own unit; a resolve can only open the window, a display
can only close it. -/
theorem selectionDividerAndDisplayHaveTheirWriters : Obligations.SelectionDividerAndDisplayHaveTheirWriters := by
  intro i s t h
  generalize t.pnsc = q, exec_regEffect h = e
  cases e with
  | unchanged => simp
  | tick => simp [runsResolve, runsDivider, runsDisplay]
  | resolve sel mod kx ky km now =>
    obtain ⟨q, l, li, d, si, rfl | rfl, e, -⟩ := resolve_selects s.cfg sel mod kx ky now s.pnsc <;>
      simp [e, runsResolve]
  | clkrec => simp
  | taptmp sel now =>
    obtain ⟨iv, lt, lg, e, -⟩ := tap_pnsc s.cfg s.pnsc sel now
    simp [e]
  | srstep => simp
  | divtick =>
    obtain ⟨n, e⟩ := divtick_pnsc s.pnsc
    simp [e, runsDivider]
  | quant => simp
  | emit => simp [emit_pnsc]
  | ptrig => simp [ptrig_pnsc]
  | display now r =>
    have hdisp := disp_of_display_disp (c := s.cfg) (now := now) (p := s.pnsc)
    refine ⟨fun _ => ⟨rfl, rfl, rfl, rfl, rfl, hdisp⟩, fun _ => rfl, fun hno => ?_⟩
    simp [runsDisplay] at hno

end Sys2Proof.Machine
end

section
/-! PROOFS. `RESULT` (R34): what a command reports does not depend on the word that stood there. Each shared operation
commutes with writing `RESULT`; the LEDs of an open `STEADY` may see the old word, but no report contains them. -/

namespace Sys2Proof.Machine

section Commute

variable (c : Config) (p : Pnsc) (r : BitVec 32)

theorem resolve_setResult (sel : BitVec 2) (mod kx ky : Byte) (now : Time) :
    resolve c sel mod kx ky now (p.setResult r) =
      ((resolve c sel mod kx ky now p).1, (resolve c sel mod kx ky now p).2.setResult r) := by
  refine Prod.ext rfl ?_
  rw [resolve_pnsc, resolve_pnsc, resolve_changed, resolve_changed, Pnsc.setResult_len]
  split <;> rfl

theorem divtick_setResult : divtick (p.setResult r) = ((divtick p).1, (divtick p).2.setResult r) := by
  rcases divtick_cases p with ⟨hle, e⟩ | ⟨hlt, e⟩
  · rw [e]
    exact if_pos hle
  · rw [e]
    exact if_neg (Nat.not_le.mpr hlt)

theorem advance_setResult (ch : Channel) (prob : Byte) (d : Draw) (now : Time) :
    advance c ch prob d now (p.setResult r) = (advance c ch prob d now p).setResult r := by
  cases ch <;> rfl

theorem triggerPhase_setResult (sel : BitVec 2) (clk : Byte) (now : Time) :
    triggerPhase c sel clk now (p.setResult r) =
      ((triggerPhase c sel clk now p).1, (triggerPhase c sel clk now p).2.setResult r) := by
  rcases triggerPhase_cases c p sel clk now with ⟨hp, e⟩ | ⟨hp, e⟩ <;>
    rcases triggerPhase_cases c (p.setResult r) sel clk now with ⟨hp', e'⟩ | ⟨hp', e'⟩
  · rw [e, e']; rfl
  · simp [hp] at hp'
  · simp [hp] at hp'
  · rw [e, e']; rfl

theorem advancePhase_setResult (trig : Bool) (prob : Byte) (r1 r2 : Draw) (now : Time) :
    advancePhase c trig prob r1 r2 now (p.setResult r) =
      ((advancePhase c trig prob r1 r2 now p).1, (advancePhase c trig prob r1 r2 now p).2.setResult r) := by
  cases trig with
  | false => rfl
  | true =>
    simp only [advancePhase_trig, advance_setResult, divtick_setResult]
    split <;> rfl

/-- What a tick reports (R266), from the phases (a) to (c) and the window phase (d) finds. -/
def tickReport (c : Config) (sel : BitVec 2) (clk mod kx ky km : Byte) (now : Time) (r1 r2 : Draw) (p : Pnsc) :
    BitVec 32 :=
  let a := resolve c sel mod kx ky now p
  let b := triggerPhase c sel clk now a.2
  let d := advancePhase c b.1.trig (probabilityOf km) r1 r2 now b.2
  resultWord
    { trig := b.1.trig, plugged := b.1.plug, adv1 := b.1.trig, adv2 := d.1, tapedge := b.1.edge, tapacc := b.1.acc,
      lenchg := a.1, dispwin := windowOpen d.2 now }
    (selectionPayload d.2.len d.2.div d.2.scaleIdx (probabilityOf km))

variable {sel : BitVec 2} {clk mod kx ky km : Byte} {now : Time} {r1 r2 : Draw}

theorem exec_tick_result {s t : State} (h : exec (.tick sel clk mod kx ky km now r1 r2) s = .next t) :
    t.pnsc.result = tickReport s.cfg sel clk mod kx ky km now r1 r2 s.pnsc := by
  obtain rfl := Host.Outcome.next.inj h
  rfl

theorem tickReport_setResult :
    tickReport c sel clk mod kx ky km now r1 r2 (p.setResult r) = tickReport c sel clk mod kx ky km now r1 r2 p := by
  simp only [tickReport, resolve_setResult, triggerPhase_setResult, advancePhase_setResult, windowOpen,
    Pnsc.setResult_len, Pnsc.setResult_div, Pnsc.setResult_scaleIdx, Pnsc.setResult_disp, Pnsc.setResult_lenTime]

end Commute

/-- Settles O52: each command's report is the same from every old `RESULT`. -/
theorem resultIsOverwrittenWhole : Obligations.ResultIsOverwrittenWhole := by
  intro i s t h
  refine ⟨fun hw r => ?_, fun hno => ?_⟩
  · change ∃ u, exec i { s with pnsc := s.pnsc.setResult r } = .next u ∧ u.pnsc.result = t.pnsc.result
    cases i with
    | tick sel clk mod kx ky km now r1 r2 =>
      obtain ⟨u, hu⟩ : ∃ u, exec (.tick sel clk mod kx ky km now r1 r2)
          { s with pnsc := s.pnsc.setResult r } = .next u := ⟨_, rfl⟩
      exact ⟨u, hu, by rw [exec_tick_result hu, exec_tick_result h, tickReport_setResult]⟩
    | resolve =>
      obtain rfl := Host.Outcome.next.inj h
      simp only [exec, execResolve, resolve_setResult]
      exact ⟨_, rfl, rfl⟩
    | divtick =>
      obtain rfl := Host.Outcome.next.inj h
      simp only [exec, execDivtick, divtick_setResult]
      exact ⟨_, rfl, rfl⟩
    | clkrec | taptmp | srstep | quant | emit | ptrig | display =>
      obtain rfl := Host.Outcome.next.inj h
      exact ⟨_, rfl, rfl⟩
    | _ => cases hw
  · generalize t.pnsc = q, exec_regEffect h = e
    cases e with
    | unchanged => rfl
    | _ => cases hno

end Sys2Proof.Machine
end

section
/-! PROOFS. The read port (10_state.md section 7): the word at each address, what a read leaves unchanged, and the words
as numbers. -/

namespace Sys2Proof.Machine

/-! ### The word at each address -/

/-- The read map (R40): the word at each address. -/
def readWord (c : Config) (p : Pnsc) (t : Time) : Nat → ReadWord
  | 0 => p.result
  | 1 => statusWord p
  | 2 => clklastWord p
  | 3 => regWord p .ch1
  | 4 => regWord p .ch2
  | 5 => pitchWord p .ch1
  | 6 => pitchWord p .ch2
  | 7 => modWord p .ch1
  | 8 => modWord p .ch2
  | 9 => pulseWord c p .ch1 t
  | 10 => pulseWord c p .ch2 t
  | 11 => ptimeWord p .ch1
  | 12 => ptimeWord p .ch2
  | 13 => ledaWord p
  | 14 => ledbWord p
  | 15 => tapintWord p
  | 16 => p.lastTap
  | 17 => p.lastTrig
  | 18 => lentimeWord p
  | _ => reservedReadWord

/-- A read answers the word of the read map and changes nothing else (R40, R68). -/
theorem exec_decodeRead (a : ReadAddr) (t : Time) (s : State) :
    exec (decodeRead a t) s = .next { s with rdData := readWord s.cfg s.pnsc t a.toNat } := by
  obtain ⟨n, hn⟩ := a
  change n < 32 at hn
  interval_cases n <;> rfl

/-- Only the two `PULSE` words depend on the time of the read (R46). -/
theorem readWord_time (c : Config) (p : Pnsc) (t t' : Time) {n : Nat} (h1 : n ≠ 9) (h2 : n ≠ 10) :
    readWord c p t n = readWord c p t' n := by
  unfold readWord
  split
  case h_10 => exact absurd rfl h1
  case h_11 => exact absurd rfl h2
  all_goals rfl

/-- The map is 0 from address 0x13 on (R40, R69). -/
theorem readWord_reserved (c : Config) (p : Pnsc) (t : Time) {n : Nat} (h : 19 ≤ n) : readWord c p t n = 0 := by
  unfold readWord
  split
  case h_20 => rfl
  all_goals omega

/-- Settles O47: a read answers the word of the read map, which looks at the time for the two `PULSE` addresses only. -/
theorem readsChangeNoRegister : Obligations.ReadsChangeNoRegister := by
  intro s a t t'
  refine ⟨⟨_, exec_decodeRead a t s⟩, fun h1 h2 => ?_⟩
  have hn1 : a.toNat ≠ 9 := fun e => h1 (BitVec.eq_of_toNat_eq e)
  have hn2 : a.toNat ≠ 10 := fun e => h2 (BitVec.eq_of_toNat_eq e)
  simp only [decode, exec_decodeRead, readWord_time s.cfg s.pnsc t t' hn1 hn2]

/-- Settles O46: each reserved read answers the reserved word, and so does every address of the map from 0x13 on. -/
theorem reservedReadsReturnZero : Obligations.ReservedReadsReturnZero := by
  intro s t
  refine ⟨rfl, rfl, rfl, rfl, rfl, rfl, rfl, rfl, rfl, rfl, rfl, rfl, rfl, fun a ha => ?_⟩
  rw [exec_decodeRead, readWord_reserved s.cfg s.pnsc t ha]

/-! ### The words as numbers -/

theorem append_toNat {m n : Nat} (x : BitVec m) (y : BitVec n) :
    (x ++ y).toNat = 2 ^ n * x.toNat + y.toNat := by
  rw [BitVec.toNat_append, ← Nat.shiftLeft_add_eq_or_of_lt y.isLt, Nat.shiftLeft_eq, Nat.mul_comm]

theorem eq_ofNat_of_toNat {n k : Nat} {w : BitVec n} (h : w.toNat = k) : w = BitVec.ofNat n k := by
  rw [← h, BitVec.ofNat_toNat, BitVec.setWidth_eq]

/-- A register with zeros above it. -/
theorem zero_append_eq (m : Nat) {n : Nat} (x : BitVec n) : 0#m ++ x = BitVec.ofNat (m + n) x.toNat :=
  eq_ofNat_of_toNat (by simp)

theorem ofBool_toNat (b : Bool) : (BitVec.ofBool b).toNat = bitNat b := by cases b <;> rfl

theorem statusWord_eq (p : Pnsc) :
    statusWord p = BitVec.ofNat 32 ((clkCode p.clkState).toNat + 4 * bitNat p.ch1.act + 8 * bitNat p.ch2.act
      + 16 * bitNat p.disp + 32 * p.prevSel.toNat + 2 ^ 8 * p.len.toNat + 2 ^ 13 * p.div.toNat
      + 2 ^ 18 * p.divCnt.toNat + 2 ^ 22 * p.scaleIdx.toNat + 2 ^ 25 * p.lenIdx.toNat) := by
  apply eq_ofNat_of_toNat
  simp only [statusWord, append_toNat, ofBool_toNat, BitVec.toNat_ofNat]
  omega

theorem pitchWord_eq (p : Pnsc) (c : Channel) :
    pitchWord p c =
      BitVec.ofNat 32 ((p.chan c).S.toNat + 2 ^ 16 * (p.chan c).pc.toNat + 2 ^ 20 * (p.chan c).oct.toNat) := by
  apply eq_ofNat_of_toNat
  simp only [pitchWord, append_toNat, BitVec.toNat_ofNat]
  omega

/-- Three brightness codes in one word, the first in the low byte (R48). -/
theorem ledTriple_eq (a b c : BitVec 8) :
    0#8 ++ c ++ b ++ a = BitVec.ofNat 32 (a.toNat + 2 ^ 8 * b.toNat + 2 ^ 16 * c.toNat) := by
  apply eq_ofNat_of_toNat
  simp only [append_toNat, BitVec.toNat_ofNat]
  omega

/-- The elapsed time on numbers is the model's difference (R12). -/
theorem elapsed_eq_tdiff (a b : Time) : elapsed a b = (tdiff a b).toNat := by
  rw [tdiff_toNat, elapsed, Nat.add_comm]

/-! ### The pulse level -/

/-- One time unit of decay does not raise the level when `PULSE_K` is below 2^16 (R223). -/
theorem decay_le {k : Nat} (hk : k ≤ 65535) (n v : Nat) : decay k n v ≤ v := by
  induction n generalizing v with
  | zero => exact le_rfl
  | succ n ih =>
    have hstep : (v * k) >>> 16 ≤ v := by
      rw [Nat.shiftRight_eq_div_pow]
      exact Nat.div_le_of_le_mul ((Nat.mul_le_mul_left v (by omega)).trans_eq (Nat.mul_comm v (2 ^ 16)))
    rw [decay_succ]
    exact (ih _).trans hstep

theorem env_le {c : Config} (hk : c.pulseK ≤ 65535) (d : Nat) : env c d ≤ 65535 := by
  unfold env
  split
  · exact le_rfl
  · exact decay_le hk _ _

theorem penv_le {c : Config} (hk : c.pulseK ≤ 65535) (p : Pnsc) (ch : Channel) (t : Time) : penv c p ch t ≤ 65535 := by
  unfold penv
  split
  · exact env_le hk _
  · exact Nat.zero_le _

/-- The level fits its sixteen bits, so the `PULSE` word is the level (R46). -/
theorem pulseWord_eq {c : Config} (hk : c.pulseK ≤ 65535) (p : Pnsc) (ch : Channel) (t : Time) :
    pulseWord c p ch t =
      BitVec.ofNat 32 (if (p.chan ch).act then env c (elapsed t (p.chan ch).ptime) else 0) := by
  have hfits : penv c p ch t % 2 ^ 16 = penv c p ch t := Nat.mod_eq_of_lt (Nat.lt_succ_of_le (penv_le hk p ch t))
  rw [pulseWord, zero_append_eq, BitVec.toNat_ofNat, hfits, penv, elapsed_eq_tdiff]

/-! ### What the reads answer -/

theorem answerRead_of_eq {s : State} {v w : ReadWord} (h : v = w) : answerRead s v = .next { s with rdData := w } :=
  congrArg (answerRead s) h

/-- Settles O45: the `PULSE` word is the level of the envelope, which never exceeds full scale. -/
theorem pulseReadFollowsTheEnvelope : Obligations.PulseReadFollowsTheEnvelope := fun s t hk =>
  ⟨answerRead_of_eq (pulseWord_eq hk s.pnsc .ch1 t), answerRead_of_eq (pulseWord_eq hk s.pnsc .ch2 t), env_le hk⟩

/-- Settles O42: each of these words is its register with zeros above it. -/
theorem readsOfPlainRegisters : Obligations.ReadsOfPlainRegisters := fun s _ =>
  ⟨answerRead_of_eq (eq_ofNat_of_toNat rfl), answerRead_of_eq (zero_append_eq 24 s.pnsc.clkLast),
    answerRead_of_eq (zero_append_eq 16 s.pnsc.ch1.R), answerRead_of_eq (zero_append_eq 16 s.pnsc.ch2.R),
    answerRead_of_eq (eq_ofNat_of_toNat rfl), answerRead_of_eq (eq_ofNat_of_toNat rfl),
    answerRead_of_eq (zero_append_eq 21 s.pnsc.interval), answerRead_of_eq (eq_ofNat_of_toNat rfl),
    answerRead_of_eq (eq_ofNat_of_toNat rfl), answerRead_of_eq (eq_ofNat_of_toNat rfl)⟩

/-- Settles O43: the packed word is the sum of its fields at their places. -/
theorem statusReadLayout : Obligations.StatusReadLayout :=
  ⟨rfl, rfl, rfl, fun s _ => answerRead_of_eq (statusWord_eq s.pnsc)⟩

/-- Settles O44: each packed word is the sum of its fields at their places. -/
theorem pitchModAndLedReadLayout : Obligations.PitchModAndLedReadLayout := fun s _ =>
  ⟨answerRead_of_eq (pitchWord_eq s.pnsc .ch1), answerRead_of_eq (pitchWord_eq s.pnsc .ch2),
    answerRead_of_eq (zero_append_eq 16 s.pnsc.ch1.M), answerRead_of_eq (zero_append_eq 16 s.pnsc.ch2.M),
    answerRead_of_eq (ledTriple_eq s.pnsc.led.led0 s.pnsc.led.led1 s.pnsc.led.led2),
    answerRead_of_eq (ledTriple_eq s.pnsc.led.led3 s.pnsc.led.led4 s.pnsc.led.led5)⟩

end Sys2Proof.Machine
end

section
/-! PROOFS. The two ports (20_memory.md): words carried over bytes (R66), and the word presented to a port (R61, R90,
R98). -/

namespace Sys2Proof

/-! ### Bytes, the least significant first (R66) -/

@[simp] theorem length_bytesOf (count v : Nat) : (bytesOf count v).length = count := by
  induction count generalizing v with
  | zero => rfl
  | succ n ih => simp [bytesOf, ih]

/-- Byte `i` of a number is its digit of weight `256 ^ i`. -/
theorem getElem?_bytesOf {count i : Nat} (h : i < count) (v : Nat) :
    (bytesOf count v)[i]? = some (BitVec.ofNat 8 (v / 256 ^ i)) := by
  induction count generalizing i v with
  | zero => omega
  | succ n ih =>
    cases i with
    | zero => simp [bytesOf]
    | succ j =>
      have hdigit : v / 256 / 256 ^ j = v / 256 ^ (j + 1) := by rw [Nat.div_div_eq_div_mul, pow_succ']
      rw [bytesOf, List.getElem?_cons_succ, ih (by omega), hdigit]

/-- That many bytes carry a number up to what they can hold. -/
theorem numberOf_bytesOf (count v : Nat) : numberOf (bytesOf count v) = v % 256 ^ count := by
  induction count generalizing v with
  | zero => simp [bytesOf, numberOf, Nat.mod_one]
  | succ n ih =>
    rw [bytesOf, numberOf, ih, BitVec.toNat_ofNat, pow_succ' 256 n]
    exact Nat.mod_mul.symm

/-- The digit of weight `256 ^ i` of a word is its bits `[8i+7 : 8i]`. -/
theorem ofNat_digit_eq_extractLsb' {n : Nat} (w : BitVec n) (i : Nat) :
    BitVec.ofNat 8 (w.toNat / 256 ^ i) = w.extractLsb' (8 * i) 8 := by
  have hweight : 2 ^ (8 * i) = 256 ^ i := pow_mul 2 8 i
  rw [BitVec.extractLsb', Nat.shiftRight_eq_div_pow, hweight]

theorem getElem?_bytesOfCommand (w : CmdWord) {i : Nat} (h : i < 16) :
    (bytesOfCommand w)[i]? = some (w.extractLsb' (8 * i) 8) := by
  rw [bytesOfCommand, getElem?_bytesOf h, ofNat_digit_eq_extractLsb']

theorem getElem?_bytesOfReadWord (w : ReadWord) {i : Nat} (h : i < 4) :
    (bytesOfReadWord w)[i]? = some (w.extractLsb' (8 * i) 8) := by
  rw [bytesOfReadWord, getElem?_bytesOf h, ofNat_digit_eq_extractLsb']

/-! ### The decoder on bytes (R66, R90) -/

@[simp] theorem length_bytesOfCommand (w : CmdWord) : (bytesOfCommand w).length = 16 := length_bytesOf 16 w.toNat

@[simp] theorem numberOf_bytesOfCommand (w : CmdWord) : numberOf (bytesOfCommand w) = w.toNat := by
  rw [bytesOfCommand, numberOf_bytesOf]
  exact Nat.mod_eq_of_lt w.isLt

theorem decodeBytes_tooShort {bs : List Byte} (h : bs.length < 16) : decodeBytes bs = .error .tooShort := if_pos h

theorem decodeBytes_tooLong {bs : List Byte} (h : 16 < bs.length) : decodeBytes bs = .error .tooLong := by
  rw [decodeBytes, if_neg (by omega), if_pos h]

theorem decodeBytes_sixteen {bs : List Byte} (h : bs.length = 16) :
    decodeBytes bs = .ok (decodeCommand (BitVec.ofNat 128 (numberOf bs))) := by
  rw [decodeBytes, if_neg (by omega), if_neg (by omega)]

@[simp] theorem decodeBytes_bytesOfCommand (w : CmdWord) : decodeBytes (bytesOfCommand w) = .ok (decodeCommand w) := by
  rw [decodeBytes_sixteen (length_bytesOfCommand w), numberOf_bytesOfCommand, BitVec.ofNat_toNat, BitVec.setWidth_eq]

/-- Settles O4: by induction on the number of bytes, byte `i` is the digit of weight `256 ^ i`, and the bytes of a word
carry its number. -/
theorem commandBytesAreLittleEndian : Obligations.CommandBytesAreLittleEndian :=
  ⟨fun w => ⟨length_bytesOfCommand w, fun _ => getElem?_bytesOfCommand w, decodeBytes_bytesOfCommand w⟩,
    fun w _ => getElem?_bytesOfReadWord w, fun _ => ⟨decodeBytes_tooShort, decodeBytes_tooLong⟩⟩

/-! ### The word presented to a port (R61, R98) -/

/-- The bytes in between change nothing: a row's word is read as the access it stands for is decoded. -/
theorem decodeTableWord_eq (nbits w : Nat) : decodeTableWord nbits w = some (decode (tableAccess nbits w)) := by
  unfold decodeTableWord
  cases tableAccess nbits w with
  | command c => exact congrArg Except.toOption (decodeBytes_bytesOfCommand c)
  | read a t => rfl

theorem tableAccess_command (w : CmdWord) : tableAccess 128 w.toNat = .command w := by
  rw [tableAccess, if_neg (by decide), Nat.mod_eq_of_lt w.isLt, BitVec.ofNat_toNat, BitVec.setWidth_eq]

namespace Machine

/-- Taking the input just presented removes it again. -/
theorem step_presentNext (x : Input) (s : State) : step (presentNext x s) = runInput x s := rfl

theorem step_withFetchWord (s : State) (nbits w : Nat) :
    step (s.withFetchWord nbits w) = exec (decode (tableAccess nbits w)) s :=
  step_presentNext (.access (tableAccess nbits w)) s

/-- Settles O7: the row's word and the next step go through the same access, which for 128 bits is the word itself. -/
theorem presentedWordIsDecodedAndRun : Obligations.PresentedWordIsDecodedAndRun :=
  ⟨fun nbits w s => ⟨_, decodeTableWord_eq nbits w, step_withFetchWord s nbits w⟩,
    fun w => by rw [decodeTableWord_eq, tableAccess_command, decode]⟩

end Machine

end Sys2Proof
end

section
/-! PROOFS. The command encoding (30_encoding.md): a command word as the numbers in its fields (R91), the round trips
between words and instructions, the fields a command reads (R93), and the assembler (R100). -/

namespace Sys2Proof

open Machine

/-! ### The fields of a command word, as numbers (R91) -/

/-- A field of a word is the number in the bits R91 gives it. -/
theorem fieldValue_fieldsOf (w : CmdWord) (x : Field) :
    fieldValue (fieldsOf w) x = w.toNat / 2 ^ x.place.1 % 2 ^ x.place.2 := by
  rw [← Nat.shiftRight_eq_div_pow]
  cases x <;> rfl

theorem fieldValue_lt (f : CmdFields) (x : Field) : fieldValue f x < 2 ^ x.place.2 := by
  cases x <;> exact BitVec.isLt _

/-- The opcode of a word is its low four bits (R92). -/
theorem toNat_op_fieldsOf (w : CmdWord) : (fieldsOf w).op.toNat = w.toNat % 16 := rfl

/-- Fields are the same when their opcodes and their numbers are. -/
theorem CmdFields.ext_values {f g : CmdFields} (hop : f.op = g.op) (h : ∀ x, fieldValue f x = fieldValue g x) :
    f = g := by
  cases f
  cases g
  rw [CmdFields.mk.injEq]
  exact ⟨hop, BitVec.eq_of_toNat_eq (h .sel), BitVec.eq_of_toNat_eq (h .ch), BitVec.eq_of_toNat_eq (h .clk),
    BitVec.eq_of_toNat_eq (h .mod), BitVec.eq_of_toNat_eq (h .kx), BitVec.eq_of_toNat_eq (h .ky),
    BitVec.eq_of_toNat_eq (h .km), BitVec.eq_of_toNat_eq (h .lm1), BitVec.eq_of_toNat_eq (h .sc),
    BitVec.eq_of_toNat_eq (h .now), BitVec.eq_of_toNat_eq (h .r1), BitVec.eq_of_toNat_eq (h .r2)⟩

/-- A packed word is the sum of its fields at their places. -/
theorem CmdFields.toNat_word (f : CmdFields) :
    f.word.toNat = f.op.toNat + 2 ^ 4 * f.sel.toNat + 2 ^ 6 * f.ch.toNat + 2 ^ 8 * f.clk.toNat + 2 ^ 16 * f.mod.toNat
      + 2 ^ 24 * f.kx.toNat + 2 ^ 32 * f.ky.toNat + 2 ^ 40 * f.km.toNat + 2 ^ 48 * f.lm1.toNat + 2 ^ 52 * f.sc.toNat
      + 2 ^ 64 * f.now.toNat + 2 ^ 96 * f.r1.toNat + 2 ^ 112 * f.r2.toNat := by
  simp only [CmdFields.word, append_toNat, BitVec.toNat_ofNat]
  omega

/-- Reading the fields of a packed word gives them back: no field of R91 overlaps another. -/
@[simp] theorem fieldsOf_word (f : CmdFields) : fieldsOf f.word = f := by
  apply CmdFields.ext_values
  · apply BitVec.eq_of_toNat_eq
    rw [toNat_op_fieldsOf, CmdFields.toNat_word]
    omega
  · intro x
    rw [fieldValue_fieldsOf, CmdFields.toNat_word]
    cases x <;> simp only [Field.place, fieldValue] <;> omega

/-- A word whose reserved bits [7] and [63:55] are 0 is packed from its own fields: they take up every other bit (R91). -/
theorem word_fieldsOf {w : CmdWord} (h7 : w.extractLsb' 7 1 = 0) (h55 : w.extractLsb' 55 9 = 0) :
    (fieldsOf w).word = w := by
  apply BitVec.eq_of_toNat_eq
  replace h7 : w.toNat / 2 ^ 7 % 2 ^ 1 = 0 := by
    simpa [Nat.shiftRight_eq_div_pow] using congrArg BitVec.toNat h7
  replace h55 : w.toNat / 2 ^ 55 % 2 ^ 9 = 0 := by
    simpa [Nat.shiftRight_eq_div_pow] using congrArg BitVec.toNat h55
  rw [CmdFields.toNat_word]
  simp only [fieldsOf, BitVec.extractLsb'_toNat, Nat.shiftRight_eq_div_pow]
  omega

/-! ### Decoding what was encoded (R92, R93, R98) -/

@[simp] theorem channelOf_channelBit (ch : Channel) : channelOf (channelBit ch) = ch := by cases ch <;> rfl

@[simp] theorem channelBit_channelOf (b : BitVec 1) : channelBit (channelOf b) = b := by
  revert b
  decide

/-- Decoding a packed word is choosing the command of its fields. -/
@[simp] theorem decode_commandAccess (f : CmdFields) : decode (commandAccess f) = commandOf f := by
  rw [commandAccess, decode, decodeCommand, fieldsOf_word]

/-- Settles O1: a command's fields survive the packing and its opcode selects it; a read's address selects it. -/
theorem decodeOfEncodeIsIdentity : Obligations.DecodeOfEncodeIsIdentity := by
  intro i
  cases i with
  | srstep ch | emit ch | ptrig ch => simp [encode, commandOf]
  | nop | tick | resolve | clkrec | taptmp | divtick | quant | display | reservedB | reservedC | reservedD | reservedE
  | reservedF => exact decode_commandAccess _
  | _ => rfl

theorem encode_decodeRead (a : ReadAddr) (t : Time) : encode (decodeRead a t) = .read a t := by
  obtain ⟨n, hn⟩ := a
  change n < 32 at hn
  interval_cases n <;> rfl

/-! ### The fields a command reads (R93) -/

/-- The mnemonics in the order of their opcodes (R92). -/
def mnemonics : List Mnemonic :=
  [.NOP, .TICK, .RESOLVE, .CLKREC, .TAPTMP, .SRSTEP, .DIVTICK, .QUANT, .EMIT, .PTRIG, .DISPLAY]

theorem getElem?_mnemonics_opcode (m : Mnemonic) : mnemonics[m.opcode]? = some m := by cases m <;> rfl

/-- The fields read under an opcode: those of its mnemonic, and none for a reserved opcode (R93, R95). -/
def opcodeReads (op : Nat) : List Field := (mnemonics[op]?).elim [] Mnemonic.reads

theorem opcodeReads_opcode (m : Mnemonic) : opcodeReads m.opcode = m.reads := by
  rw [opcodeReads, getElem?_mnemonics_opcode, Option.elim_some]

/-- The fields with this opcode and these numbers, each cut to its width. -/
def CmdFields.ofValues (op : BitVec 4) (v : Field → Nat) : CmdFields where
  op := op
  sel := BitVec.ofNat 2 (v .sel)
  ch := BitVec.ofNat 1 (v .ch)
  clk := BitVec.ofNat 8 (v .clk)
  mod := BitVec.ofNat 8 (v .mod)
  kx := BitVec.ofNat 8 (v .kx)
  ky := BitVec.ofNat 8 (v .ky)
  km := BitVec.ofNat 8 (v .km)
  lm1 := BitVec.ofNat 4 (v .lm1)
  sc := BitVec.ofNat 3 (v .sc)
  now := BitVec.ofNat 32 (v .now)
  r1 := BitVec.ofNat 16 (v .r1)
  r2 := BitVec.ofNat 16 (v .r2)

theorem fieldValue_ofValues (op : BitVec 4) (v : Field → Nat) (x : Field) :
    fieldValue (.ofValues op v) x = v x % 2 ^ x.place.2 := by
  cases x <;> rfl

/-- The fields with 0 in each one the command does not read. -/
def CmdFields.clearUnread (f : CmdFields) : CmdFields :=
  .ofValues f.op fun x => if x ∈ opcodeReads f.op.toNat then fieldValue f x else 0

theorem fieldValue_clearUnread (f : CmdFields) (x : Field) :
    fieldValue f.clearUnread x = if x ∈ opcodeReads f.op.toNat then fieldValue f x else 0 := by
  rw [CmdFields.clearUnread, fieldValue_ofValues]
  split
  · exact Nat.mod_eq_of_lt (fieldValue_lt f x)
  · exact Nat.zero_mod _

theorem CmdFields.clearUnread_eq_self {f : CmdFields} (h : ∀ x ∉ opcodeReads f.op.toNat, fieldValue f x = 0) :
    f.clearUnread = f := by
  refine CmdFields.ext_values rfl fun x => ?_
  rw [fieldValue_clearUnread]
  split
  · rfl
  · next hx => exact (h x hx).symm

/-- The encoder writes the fields a command reads, and 0 in the others (R94). -/
theorem encode_commandOf (f : CmdFields) : encode (commandOf f) = commandAccess f.clearUnread := by
  obtain ⟨⟨n, hn⟩, _⟩ := f
  change n < 16 at hn
  interval_cases n <;>
    simp [commandOf, encode, CmdFields.clearUnread, CmdFields.ofValues, opcodeReads, mnemonics, Mnemonic.reads,
      fieldValue]

/-! ### The bits outside the fields a command reads (R94, R95) -/

/-- The mask of an opcode has the opcode, all ones in each field read, and zeros in every other bit. -/
theorem readMask_bits {op : Nat} (hop : op < 16) :
    (fieldsOf (readMask op)).op = 15 ∧
    (∀ x, fieldValue (fieldsOf (readMask op)) x = if x ∈ opcodeReads op then 2 ^ x.place.2 - 1 else 0) ∧
    (readMask op).extractLsb' 7 1 = 0 ∧ (readMask op).extractLsb' 55 9 = 0 := by
  interval_cases op <;> exact ⟨by decide, by intro x; cases x <;> decide, by decide, by decide⟩

theorem fieldValue_fieldsOf_and (w m : CmdWord) (x : Field) :
    fieldValue (fieldsOf (w &&& m)) x = fieldValue (fieldsOf w) x &&& fieldValue (fieldsOf m) x := by
  cases x <;> exact (congrArg BitVec.toNat BitVec.extractLsb'_and).trans (BitVec.toNat_and _ _)

/-- Masking a word clears the fields its command does not read. -/
theorem fieldsOf_and_readMask (w : CmdWord) :
    fieldsOf (w &&& readMask (w.toNat % 16)) = (fieldsOf w).clearUnread := by
  obtain ⟨hop, hvalues, -⟩ := readMask_bits (Nat.mod_lt w.toNat (by decide : 0 < 16))
  apply CmdFields.ext_values
  · calc (fieldsOf (w &&& readMask (w.toNat % 16))).op
        = (fieldsOf w).op &&& (fieldsOf (readMask (w.toNat % 16))).op := BitVec.extractLsb'_and
      _ = (fieldsOf w).op := by rw [hop]; exact BitVec.and_allOnes
  · intro x
    rw [fieldValue_fieldsOf_and, hvalues, fieldValue_clearUnread, toNat_op_fieldsOf]
    split
    · rw [Nat.and_two_pow_sub_one_eq_mod, Nat.mod_eq_of_lt (fieldValue_lt _ x)]
    · exact Nat.and_zero _

/-- The masked word is packed from the fields its command reads, its reserved bits being 0. -/
theorem word_clearUnread_fieldsOf (w : CmdWord) :
    (fieldsOf w).clearUnread.word = w &&& readMask (w.toNat % 16) := by
  obtain ⟨-, -, h7, h55⟩ := readMask_bits (Nat.mod_lt w.toNat (by decide : 0 < 16))
  rw [← fieldsOf_and_readMask]
  apply word_fieldsOf
  · rw [BitVec.extractLsb'_and, h7]
    exact BitVec.and_zero
  · rw [BitVec.extractLsb'_and, h55]
    exact BitVec.and_zero

theorem encode_decodeCommand (w : CmdWord) :
    encode (decodeCommand w) = .command (w &&& readMask (w.toNat % 16)) := by
  rw [decodeCommand, encode_commandOf, commandAccess, word_clearUnread_fieldsOf]

/-- Settles O2: encoding a decoded word gives the masked word, which therefore decodes to the same instruction. -/
theorem unreadBitsHaveNoEffect : Obligations.UnreadBitsHaveNoEffect := by
  refine ⟨fun w => ⟨?_, encode_decodeCommand w⟩, encode_decodeRead⟩
  calc decodeCommand (w &&& readMask (w.toNat % 16))
      = decode (encode (decodeCommand w)) := by rw [encode_decodeCommand, decode]
    _ = decodeCommand w := decodeOfEncodeIsIdentity (decodeCommand w)

/-- Settles O3: the decoder evaluates each word to the command written beside it. -/
theorem specWordsDecode : Obligations.SpecWordsDecode :=
  ⟨rfl, rfl, rfl, rfl, rfl, rfl, rfl, rfl, rfl, rfl, rfl, rfl, rfl, rfl⟩

/-! ### The assembler (R100) -/

/-- With no key given twice, looking a key up finds the pair that stands in the list. -/
theorem lookup_eq_some_iff_mem {l : List (Field × Nat)} (hl : (l.map Prod.fst).Nodup) {x : Field} {v : Nat} :
    l.lookup x = some v ↔ (x, v) ∈ l := by
  induction l with
  | nil => simp
  | cons p l ih =>
    obtain ⟨y, u⟩ := p
    obtain ⟨hy, hl⟩ := List.nodup_cons.mp hl
    rw [List.lookup_cons, List.mem_cons, Prod.mk.injEq]
    rcases eq_or_ne x y with rfl | hxy
    · have hnot : (x, v) ∉ l := fun h => hy (List.mem_map.mpr ⟨(x, v), h, rfl⟩)
      simp [hnot, eq_comm]
    · rw [beq_eq_false_iff_ne.mpr hxy, ih hl]
      simp [hxy]

/-- What well-formedness asks of a command line (assumption log 11). -/
theorem wellFormed_cmd_iff {m : Mnemonic} {fs : List (Field × Nat)} :
    (AsmLine.cmd m fs).wellFormed = true ↔
      (∀ x v, (x, v) ∈ fs → v < 2 ^ x.place.2) ∧ (fs.map Prod.fst).Nodup := by
  simp [AsmLine.wellFormed]

theorem asmValue_of_mem {m : Mnemonic} {fs : List (Field × Nat)} (hfs : (fs.map Prod.fst).Nodup) {x : Field} {v : Nat}
    (hv : (x, v) ∈ fs) (hx : x ∈ m.reads) : asmValue m fs x = v := by
  rw [asmValue, if_pos hx, (lookup_eq_some_iff_mem hfs).mpr hv, Option.getD_some]

theorem asmValue_of_not_reads {m : Mnemonic} {fs : List (Field × Nat)} {x : Field} (hx : x ∉ m.reads) :
    asmValue m fs x = 0 := if_neg hx

theorem asmValue_of_omitted {m : Mnemonic} {fs : List (Field × Nat)} {x : Field} (hx : x ∉ fs.map Prod.fst) :
    asmValue m fs x = 0 := by
  have hnone : fs.lookup x = none :=
    List.lookup_eq_none_iff.mpr fun p hp => bne_iff_ne.mpr fun e => hx (e ▸ List.mem_map_of_mem hp)
  rw [asmValue, hnone, Option.getD_none, ite_self]

/-- The order of the pairs does not matter (R100). -/
theorem asmValue_perm {m : Mnemonic} {fs gs : List (Field × Nat)} (hfs : (fs.map Prod.fst).Nodup) (h : fs.Perm gs) :
    asmValue m gs = asmValue m fs := by
  have hgs : (gs.map Prod.fst).Nodup := (h.map Prod.fst).nodup_iff.mp hfs
  funext x
  have hlookup : gs.lookup x = fs.lookup x := by
    ext v
    rw [lookup_eq_some_iff_mem hgs, lookup_eq_some_iff_mem hfs, h.mem_iff]
  rw [asmValue, asmValue, hlookup]

/-- The fields a command line stands for. -/
def asmFields (m : Mnemonic) (fs : List (Field × Nat)) : CmdFields :=
  .ofValues (BitVec.ofNat 4 m.opcode) (asmValue m fs)

theorem assemble_cmd (m : Mnemonic) (fs : List (Field × Nat)) :
    assemble (.cmd m fs) = commandAccess (asmFields m fs) := rfl

theorem toNat_op_asmFields (m : Mnemonic) (fs : List (Field × Nat)) : (asmFields m fs).op.toNat = m.opcode := by
  cases m <;> rfl

theorem fieldValue_asmFields (m : Mnemonic) (fs : List (Field × Nat)) (x : Field) :
    fieldValue (asmFields m fs) x = asmValue m fs x % 2 ^ x.place.2 :=
  fieldValue_ofValues _ _ x

/-- The assembler already writes 0 in the fields the command does not read (R94). -/
theorem clearUnread_asmFields (m : Mnemonic) (fs : List (Field × Nat)) :
    (asmFields m fs).clearUnread = asmFields m fs := by
  apply CmdFields.clearUnread_eq_self
  intro x hx
  rw [toNat_op_asmFields, opcodeReads_opcode] at hx
  rw [fieldValue_asmFields, asmValue_of_not_reads hx, Nat.zero_mod]

theorem encode_decodeCommand_asmFields (m : Mnemonic) (fs : List (Field × Nat)) :
    encode (decodeCommand (asmFields m fs).word) = .command (asmFields m fs).word := by
  rw [decodeCommand, fieldsOf_word, encode_commandOf, clearUnread_asmFields, commandAccess]

/-- Settles O5: the word of a line is packed from `asmFields`, whose numbers are those the line gives. -/
theorem assemblerLineGivesItsWord : Obligations.AssemblerLineGivesItsWord := by
  refine ⟨fun m fs hwf => ?_, fieldValue_fieldsOf, fun a t ht => ?_⟩
  · obtain ⟨hfit, hnodup⟩ := wellFormed_cmd_iff.mp hwf
    refine ⟨⟨(asmFields m fs).word, assemble_cmd m fs, ?_, ?_, ?_, encode_decodeCommand_asmFields m fs⟩, ?_⟩
    · rw [← toNat_op_fieldsOf, fieldsOf_word, toNat_op_asmFields]
      exact getElem?_mnemonics_opcode m
    · intro x v hv hx
      rw [fieldsOf_word, fieldValue_asmFields, asmValue_of_mem hnodup hv hx]
      exact Nat.mod_eq_of_lt (hfit x v hv)
    · intro x hx
      have hzero : asmValue m fs x = 0 := hx.elim asmValue_of_omitted asmValue_of_not_reads
      rw [fieldsOf_word, fieldValue_asmFields, hzero, Nat.zero_mod]
    · intro gs hperm
      refine ⟨wellFormed_cmd_iff.mpr ⟨fun x v hv => hfit x v (hperm.mem_iff.mpr hv), ?_⟩, ?_⟩
      · exact (hperm.map Prod.fst).nodup_iff.mp hnodup
      · rw [assemble_cmd, assemble_cmd, asmFields, asmFields, asmValue_perm hnodup hperm]
  · exact ⟨BitVec.ofNat 32 t, rfl, Nat.mod_eq_of_lt (of_decide_eq_true ht)⟩

end Sys2Proof
end

section
/-! PROOFS. Runs of instructions, the `RESULT` word as a number, and clock recovery (40_clock_recovery.md): what
`CLKREC` does, the transition table by the range of the sample (R129), and the hysteresis (R130). -/

namespace Sys2Proof.Machine

/-! ### Runs -/

/-- Every instruction answers a next state (R290). -/
theorem exec_next (i : Instr) (s : State) : ∃ t, exec i s = .next t := by
  cases i <;> exact ⟨_, rfl⟩

theorem runInstrs_cons {i : Instr} {s t : State} (h : exec i s = .next t) (is : List Instr) :
    runInstrs (i :: is) s = t :: runInstrs is t := by
  rw [runInstrs, h]

/-- A run of any length completes. -/
theorem length_runInstrs (is : List Instr) (s : State) : (runInstrs is s).length = is.length := by
  induction is generalizing s with
  | nil => rfl
  | cons i is ih =>
    obtain ⟨t, ht⟩ := exec_next i s
    rw [runInstrs_cons ht, List.length_cons, List.length_cons, ih]

/-- An invariant of a run whose every step also gives `Q` gives `Q` in every state of the run. -/
theorem forall_mem_runInstrs {I Q : State → Prop} {is : List Instr}
    (hstep : ∀ i ∈ is, ∀ s t, I s → exec i s = .next t → I t ∧ Q t) {s : State} (hs : I s) :
    ∀ t ∈ runInstrs is s, Q t := by
  induction is generalizing s with
  | nil => exact fun t ht => absurd ht List.not_mem_nil
  | cons i is ih =>
    rw [List.forall_mem_cons] at hstep
    obtain ⟨t, ht⟩ := exec_next i s
    obtain ⟨hIt, hQt⟩ := hstep.1 s t hs ht
    rw [runInstrs_cons ht, List.forall_mem_cons]
    exact ⟨hQt, ih hstep.2 hIt⟩

/-! ### The `RESULT` word (R34) -/

theorem flagByte_toNat (f : ResultFlags) :
    (flagByte f).toNat = bitNat f.trig + 2 * bitNat f.plugged + 4 * bitNat f.adv1 + 8 * bitNat f.adv2
      + 16 * bitNat f.tapedge + 32 * bitNat f.tapacc + 64 * bitNat f.lenchg + 128 * bitNat f.dispwin := by
  simp only [flagByte, append_toNat, ofBool_toNat]
  omega

theorem resultWord_eq (f : ResultFlags) (payload : BitVec 24) :
    resultWord f payload = BitVec.ofNat 32 ((flagByte f).toNat + 256 * payload.toNat) := by
  apply eq_ofNat_of_toNat
  rw [resultWord, append_toNat]
  omega

/-- Bit 0 of `RESULT` is the trigger flag. -/
theorem resultWord_getLsbD_zero (f : ResultFlags) (payload : BitVec 24) :
    (resultWord f payload).getLsbD 0 = f.trig := by
  simp only [resultWord, flagByte, BitVec.getLsbD_append]
  simp

theorem clockPayload_toNat (st : ClkState) : (clockPayload st).toNat = (clkCode st).toNat := by
  cases st <;> rfl

/-! ### The transition table by the range of the sample (R129) -/

section Table

variable {c : Config} {v : Byte} (hplug : plugged c v = true) (st : ClkState)
include hplug

theorem clockStep_low (hlow : v.toNat < c.thresholdLow) (hth : c.thresholdLow < c.thresholdHigh) :
    clockStep c st v = (.low, false) := by
  have hhigh : ¬ v.toNat > c.thresholdHigh := by omega
  cases st <;> simp [clockStep, hplug, hlow, hhigh]

theorem clockStep_middle (hlow : c.thresholdLow ≤ v.toNat) (hhigh : v.toNat ≤ c.thresholdHigh) :
    clockStep c st v = (if st = .high then .high else .low, false) := by
  have hlow' : ¬ v.toNat < c.thresholdLow := by omega
  have hhigh' : ¬ v.toNat > c.thresholdHigh := by omega
  cases st <;> simp [clockStep, hplug, hlow', hhigh']

theorem clockStep_high (hhigh : c.thresholdHigh < v.toNat) (hth : c.thresholdLow < c.thresholdHigh) :
    clockStep c st v = (.high, decide (st ≠ .high)) := by
  have hlow : ¬ v.toNat < c.thresholdLow := by omega
  cases st <;> simp [clockStep, hplug, hlow, hhigh]

/-- HIGH holds, without a trigger, until a sample is below the lower threshold or not plugged. -/
theorem clockStep_holds_high (hlow : c.thresholdLow ≤ v.toNat) : clockStep c .high v = (.high, false) := by
  have hlow' : ¬ v.toNat < c.thresholdLow := by omega
  simp [clockStep, hplug, hlow']

end Table

/-! ### The command -/

/-- The report of `CLKREC` (R128). -/
def clockReport (c : Config) (st : ClkState) (v : Byte) : BitVec 32 :=
  resultWord { trig := (clockStep c st v).2, plugged := plugged c v } (clockPayload (clockStep c st v).1)

/-- What `CLKREC` does (R127, R128). -/
theorem exec_clkrec (v : Byte) (s : State) :
    exec (.clkrec v) s = .next { s with pnsc :=
      (s.pnsc.setClock (clockStep s.cfg s.pnsc.clkState v).1 v).setResult (clockReport s.cfg s.pnsc.clkState v) } := rfl

theorem clockReport_eq (c : Config) (st : ClkState) (v : Byte) :
    clockReport c st v = BitVec.ofNat 32 (bitNat (clockStep c st v).2 + 2 * bitNat (plugged c v)
      + 256 * (clkCode (clockStep c st v).1).toNat) := by
  rw [clockReport, resultWord_eq, clockPayload_toNat, flagByte_toNat]
  simp [bitNat]

/-- Settles O13: the witnesses are the two results of `clockStep`, by the range of the sample. -/
theorem clkrecFollowsTheTransitionTable : Obligations.ClkrecFollowsTheTransitionTable := by
  intro s v hth
  have hplug : decide (s.cfg.idleHi < v.toNat ∨ v.toNat < s.cfg.idleLo) = plugged s.cfg v := Bool.decide_or ..
  rw [hplug]
  refine ⟨(clockStep s.cfg s.pnsc.clkState v).1, (clockStep s.cfg s.pnsc.clkState v).2, ?_, fun hp => ?_,
    fun hp hlow => ?_, fun hp hlow hhigh => ?_, fun hp hhigh => ?_⟩
  · rw [← clockReport_eq, exec_clkrec]
    rfl
  · rw [clockStep_unplugged _ hp]
    exact ⟨rfl, rfl⟩
  · rw [clockStep_low hp _ hlow hth]
    exact ⟨rfl, rfl⟩
  · rw [clockStep_middle hp _ hlow hhigh]
    exact ⟨rfl, rfl⟩
  · rw [clockStep_high hp _ hhigh hth]
    exact ⟨rfl, rfl⟩

/-! ### Hysteresis (R130) -/

/-- A run whose samples keep an invariant `ok` of the clock state and fire nothing under it has no trigger. -/
theorem runInstrs_clkrec_no_trigger {s : State} {vs : List Byte} {ok : ClkState → Prop}
    (hquiet : ∀ v ∈ vs, ∀ st, ok st → ok (clockStep s.cfg st v).1 ∧ (clockStep s.cfg st v).2 = false)
    (hs : ok s.pnsc.clkState) :
    ∀ t ∈ runInstrs (vs.map Instr.clkrec) s, t.pnsc.result.getLsbD 0 = false := by
  refine forall_mem_runInstrs (I := fun t => t.cfg = s.cfg ∧ ok t.pnsc.clkState) ?_ ⟨rfl, hs⟩
  rintro i hi t u ⟨hcfg, hok⟩ hu
  obtain ⟨v, hv, rfl⟩ := List.mem_map.mp hi
  obtain ⟨hok', hno⟩ := hquiet v hv _ hok
  rw [exec_clkrec, hcfg] at hu
  obtain rfl := Host.Outcome.next.inj hu
  exact ⟨⟨rfl, hok'⟩, (resultWord_getLsbD_zero _ _).trans hno⟩

/-- Settles O14: a trigger needs a sample above the upper threshold, and HIGH holds over samples that are plugged and
not below the lower one. -/
theorem hysteresisPreventsTriggers : Obligations.HysteresisPreventsTriggers := by
  intro s vs
  refine ⟨by rw [length_runInstrs, List.length_map], fun hle => ?_, fun hhigh hge => ?_⟩
  · refine runInstrs_clkrec_no_trigger (ok := fun _ => True) (fun v hv st _ => ⟨trivial, ?_⟩) trivial
    refine Bool.eq_false_iff.mpr fun hfires => ?_
    obtain ⟨_, _, habove⟩ := clockStep_fires s.cfg hfires
    exact absurd (hle v hv) (Nat.not_le.mpr habove)
  · refine runInstrs_clkrec_no_trigger (ok := fun st => st = .high) (fun v hv st hst => ?_) hhigh
    obtain ⟨hplug, hlow⟩ := hge v hv
    rw [hst, clockStep_holds_high hplug hlow]
    exact ⟨rfl, rfl⟩

end Sys2Proof.Machine
end

section
/-! PROOFS. Tap tempo (41_tap_tempo.md): what the estimator computes, what `TAPTMP` does, the consequences for two taps
(R149) and for a held selector (R150), and the true time that a fresh stamp measures (R151, R322). -/

namespace Sys2Proof.Machine

/-! ### True time -/

/-- The difference from a fresh stamp is the true elapsed time (R151). -/
theorem tdiff_toNat_of_freshStamp {now taken : Nat} {stored : Time} (h : FreshStamp now taken stored) :
    (tdiff (BitVec.ofNat 32 now) stored).toNat = now - taken := by
  obtain ⟨rfl, hpast, hage⟩ := h
  rw [tdiff_toNat, BitVec.toNat_ofNat, BitVec.toNat_ofNat]
  omega

/-- Settles O17: every stamp in use is fresh. -/
theorem freshStampsMeasureTrueTime : Obligations.FreshStampsMeasureTrueTime := fun _ _ _ h =>
  ⟨tdiff_toNat_of_freshStamp h.lastTap, tdiff_toNat_of_freshStamp h.lastTrig,
    fun hdisp => tdiff_toNat_of_freshStamp (h.lenTime hdisp), fun hact => tdiff_toNat_of_freshStamp (h.ptime1 hact),
    fun hact => tdiff_toNat_of_freshStamp (h.ptime2 hact)⟩

/-! ### Tap edges and accepted gaps -/

section Edge

variable {c : Config} {prevSel sel : BitVec 2}

theorem tapEdge_eq_decide (c : Config) (prevSel sel : BitVec 2) :
    tapEdge c prevSel sel = decide (prevSel.toNat ≠ c.tapPos ∧ sel.toNat = c.tapPos) :=
  (Bool.decide_and ..).symm

theorem tapEdge_of_change (hprev : prevSel.toNat ≠ c.tapPos) (hsel : sel.toNat = c.tapPos) :
    tapEdge c prevSel sel = true := by
  rw [tapEdge_eq_decide]
  exact decide_eq_true ⟨hprev, hsel⟩

theorem tapEdge_of_away (hsel : sel.toNat ≠ c.tapPos) : tapEdge c prevSel sel = false := by
  rw [tapEdge_eq_decide]
  exact decide_eq_false fun h => hsel h.right

/-- A selector that stood at the tap position makes no edge (R150 (e)). -/
theorem tapEdge_of_held (hprev : prevSel.toNat = c.tapPos) : tapEdge c prevSel sel = false := by
  rw [tapEdge_eq_decide]
  exact decide_eq_false fun h => h.left hprev

end Edge

theorem gapAccepted_tdiff (a b : Time) :
    gapAccepted (tdiff a b) = decide (100 ≤ elapsed a b ∧ elapsed a b ≤ 2000) := by
  rw [elapsed_eq_tdiff]
  exact (Bool.decide_and ..).symm

/-! ### The estimator (R148) -/

section Estimator

variable (c : Config) (sel : BitVec 2) (now : Time) (p : Pnsc)

@[simp] theorem tap_edge : (tap c sel now p).1.edge = tapEdge c p.prevSel sel := rfl

@[simp] theorem tap_acc :
    (tap c sel now p).1.acc = (tapEdge c p.prevSel sel && gapAccepted (tdiff now p.lastTap)) := rfl

@[simp] theorem tap_lastTap : (tap c sel now p).2.lastTap = if tapEdge c p.prevSel sel then now else p.lastTap := rfl

/-- The new interval: an accepted gap, which fits the register, or the old interval (R143). -/
theorem tap_interval_toNat :
    (tap c sel now p).2.interval.toNat =
      if (tap c sel now p).1.acc then elapsed now p.lastTap else p.interval.toNat := by
  cases hacc : (tap c sel now p).1.acc with
  | false => exact congrArg BitVec.toNat (if_neg (Bool.eq_false_iff.mp hacc))
  | true =>
    rw [tap_acc, Bool.and_eq_true] at hacc
    obtain ⟨hlow, hhigh⟩ := gapAccepted_range hacc.right
    have hiv : (tap c sel now p).2.interval = BitVec.ofNat 11 (tdiff now p.lastTap).toNat :=
      if_pos ((Bool.and_eq_true ..).mpr hacc)
    rw [hiv, if_pos rfl, elapsed_eq_tdiff, BitVec.toNat_ofNat]
    simp only [tMin, tMax] at hlow hhigh
    omega

/-- The free-running test, with the new interval (R145). -/
def freeRunning : Bool := decide ((tap c sel now p).2.interval.toNat < elapsed now p.lastTrig)

theorem tap_trig : (tap c sel now p).1.trig = ((tap c sel now p).1.acc || freeRunning c sel now p) := by
  rw [freeRunning, elapsed_eq_tdiff]
  rfl

/-- Only the free-running trigger writes `last_trig` (R146). -/
theorem tap_lastTrig :
    (tap c sel now p).2.lastTrig = if freeRunning c sel now p then now else p.lastTrig := by
  rw [freeRunning, elapsed_eq_tdiff]
  rfl

/-- The report of `TAPTMP` (R147). -/
def tapWord : BitVec 32 :=
  resultWord { trig := (tap c sel now p).1.trig, tapedge := (tap c sel now p).1.edge, tapacc := (tap c sel now p).1.acc }
    (intervalPayload (tap c sel now p).2.interval)

theorem tapWord_eq :
    tapWord c sel now p = BitVec.ofNat 32 (bitNat (tap c sel now p).1.trig + 16 * bitNat (tap c sel now p).1.edge
      + 32 * bitNat (tap c sel now p).1.acc + 256 * (tap c sel now p).2.interval.toNat) := by
  rw [tapWord, resultWord_eq, flagByte_toNat, intervalPayload, append_toNat]
  simp [bitNat]

@[simp] theorem tapWord_trig : (tapWord c sel now p).getLsbD 0 = (tap c sel now p).1.trig :=
  resultWord_getLsbD_zero ..

/-- Bit 4 of `RESULT` is the tap-edge flag. -/
@[simp] theorem tapWord_edge : (tapWord c sel now p).getLsbD 4 = tapEdge c p.prevSel sel := by
  simp only [tapWord, resultWord, flagByte, BitVec.getLsbD_append]
  simp

/-- Bit 5 of `RESULT` is the acceptance flag. -/
@[simp] theorem tapWord_acc : (tapWord c sel now p).getLsbD 5 = (tap c sel now p).1.acc := by
  simp only [tapWord, resultWord, flagByte, BitVec.getLsbD_append]
  simp

end Estimator

/-! ### The command (R140) -/

/-- The state after `TAPTMP`. -/
def taptmpNext (sel : BitVec 2) (now : Time) (s : State) : State :=
  { s with pnsc := ((tap s.cfg sel now s.pnsc).2.setPrevSel sel).setResult (tapWord s.cfg sel now s.pnsc) }

section Command

variable (sel : BitVec 2) (now : Time) (s : State)

theorem exec_taptmp : exec (.taptmp sel now) s = .next (taptmpNext sel now s) := rfl

@[simp] theorem taptmpNext_cfg : (taptmpNext sel now s).cfg = s.cfg := rfl

@[simp] theorem taptmpNext_prevSel : (taptmpNext sel now s).pnsc.prevSel = sel := rfl

@[simp] theorem taptmpNext_lastTap :
    (taptmpNext sel now s).pnsc.lastTap = if tapEdge s.cfg s.pnsc.prevSel sel then now else s.pnsc.lastTap := rfl

@[simp] theorem taptmpNext_interval :
    (taptmpNext sel now s).pnsc.interval = (tap s.cfg sel now s.pnsc).2.interval := rfl

@[simp] theorem taptmpNext_result : (taptmpNext sel now s).pnsc.result = tapWord s.cfg sel now s.pnsc := rfl

end Command

/-- Settles O15: the values the statement names are those of the estimator, which writes no other register. -/
theorem taptmpFollowsTheEstimator : Obligations.TaptmpFollowsTheEstimator := by
  intro s sel now edge gap acc iv free
  have hedge : (tap s.cfg sel now s.pnsc).1.edge = edge := tapEdge_eq_decide ..
  have hacc : (tap s.cfg sel now s.pnsc).1.acc = acc := congrArg₂ and hedge (gapAccepted_tdiff ..)
  have hiv : (tap s.cfg sel now s.pnsc).2.interval.toNat = iv := by rw [tap_interval_toNat, hacc]
  have hfree : freeRunning s.cfg sel now s.pnsc = free := by rw [freeRunning, hiv]
  have hregs : (tap s.cfg sel now s.pnsc).2 =
      s.pnsc.setTap (BitVec.ofNat 11 iv) (if edge then now else s.pnsc.lastTap)
        (if free then now else s.pnsc.lastTrig) := by
    rw [← eq_ofNat_of_toNat hiv, ← hedge, ← hfree, ← tap_lastTrig]
    rfl
  rw [exec_taptmp, taptmpNext, tapWord_eq, tap_trig, hiv, hacc, hedge, hfree, hregs]
  rfl

/-! ### Two taps (R149) -/

/-- A tap edge after an acceptable gap sets the interval to that gap and reports it (R143). -/
theorem taptmpNext_of_accepted {sel : BitVec 2} {now : Time} {s : State}
    (hedge : tapEdge s.cfg s.pnsc.prevSel sel = true) (hlow : 100 ≤ elapsed now s.pnsc.lastTap)
    (hhigh : elapsed now s.pnsc.lastTap ≤ 2000) :
    (taptmpNext sel now s).pnsc.interval.toNat = elapsed now s.pnsc.lastTap ∧
    (taptmpNext sel now s).pnsc.lastTap = now ∧
    (taptmpNext sel now s).pnsc.result.getLsbD 0 = true ∧ (taptmpNext sel now s).pnsc.result.getLsbD 4 = true ∧
    (taptmpNext sel now s).pnsc.result.getLsbD 5 = true := by
  have hacc : (tap s.cfg sel now s.pnsc).1.acc = true := by
    rw [tap_acc, hedge, gapAccepted_tdiff, decide_eq_true ⟨hlow, hhigh⟩, Bool.and_self]
  refine ⟨?_, ?_, ?_, ?_, ?_⟩
  · rw [taptmpNext_interval, tap_interval_toNat, hacc, if_pos rfl]
  · rw [taptmpNext_lastTap, hedge, if_pos rfl]
  · rw [taptmpNext_result, tapWord_trig, tap_trig, hacc, Bool.true_or]
  · rw [taptmpNext_result, tapWord_edge, hedge]
  · rw [taptmpNext_result, tapWord_acc, hacc]

/-- A tap edge stamps its time, and a selector away from the tap position keeps the stamp (R144). -/
theorem lastTap_of_tap_then_away {tapSel away : BitVec 2} (tapTime awayTime : Time) {s : State}
    (hprev : s.pnsc.prevSel.toNat ≠ s.cfg.tapPos) (htap : tapSel.toNat = s.cfg.tapPos)
    (haway : away.toNat ≠ s.cfg.tapPos) :
    (taptmpNext away awayTime (taptmpNext tapSel tapTime s)).pnsc.lastTap = tapTime := by
  have hnone : tapEdge (taptmpNext tapSel tapTime s).cfg tapSel away = false := tapEdge_of_away haway
  calc (taptmpNext away awayTime (taptmpNext tapSel tapTime s)).pnsc.lastTap
      _ = (taptmpNext tapSel tapTime s).pnsc.lastTap := by
        rw [taptmpNext_lastTap, taptmpNext_prevSel, hnone, if_neg Bool.false_ne_true]
      _ = tapTime := by rw [taptmpNext_lastTap, tapEdge_of_change hprev htap, if_pos rfl]

/-- Settles O16: the second command stamps `a`, the third keeps the stamp, the fourth measures from it. -/
theorem twoTapEdgesSetTheInterval : Obligations.TwoTapEdgesSetTheInterval := by
  intro s x y tapSel t0 a t1 b htap hx hy hlow hhigh
  have hstamp := lastTap_of_tap_then_away (s := taptmpNext x t0 s) a t1 hx htap hy
  have haccepted := taptmpNext_of_accepted (sel := tapSel) (now := b)
    (s := taptmpNext y t1 (taptmpNext tapSel a (taptmpNext x t0 s))) (tapEdge_of_change hy htap)
    (by rwa [hstamp]) (by rwa [hstamp])
  rw [hstamp] at haccepted
  exact ⟨_, rfl, haccepted⟩

/-! ### A held selector (R150 (e)) -/

/-- Settles O56: after the first command `prev_sel` is at the tap position, and every later one keeps it there, so
there is no further edge. -/
theorem heldSelectorMakesOneEdgeOnly : Obligations.HeldSelectorMakesOneEdgeOnly := by
  intro s tapSel a times htap
  refine ⟨taptmpNext tapSel a s, exec_taptmp .., by rw [length_runInstrs, List.length_map], ?_⟩
  generalize hlastTap : (taptmpNext tapSel a s).pnsc.lastTap = stamp
  refine forall_mem_runInstrs (I := fun u => u.cfg = s.cfg ∧ u.pnsc.prevSel = tapSel ∧ u.pnsc.lastTap = stamp) ?_
    ⟨rfl, rfl, hlastTap⟩
  rintro i hi u v ⟨hcfg, hprev, hlast⟩ hv
  obtain ⟨now, -, rfl⟩ := List.mem_map.mp hi
  obtain rfl := Host.Outcome.next.inj hv
  have hno : tapEdge u.cfg u.pnsc.prevSel tapSel = false := tapEdge_of_held (by rw [hprev, hcfg, htap])
  have hkept : (taptmpNext tapSel now u).pnsc.lastTap = stamp := by simp [hno, hlast]
  refine ⟨⟨hcfg, rfl, hkept⟩, ?_, ?_, hkept⟩
  · exact (tapWord_edge ..).trans hno
  · refine (tapWord_acc ..).trans ?_
    rw [tap_acc, hno, Bool.false_and]

end Sys2Proof.Machine
end

section
/-! PROOFS. The shift register (42_shift_register.md): the flip test (R162, R163), what `SRSTEP` does (R161, R165, R168),
and the loops of a fixed length in which every draw is retained (R166) or every draw flips (R167). -/

namespace Sys2Proof.Machine

/-! ### The flip test (R162, R163) -/

theorem flips_iff (p : Byte) (r : Draw) : flips p r = true ↔ p.toNat * 65536 ≤ r.toNat * 255 :=
  decide_eq_true_iff

/-- The first draw that flips: `p * 65536 / 255`, rounded up. -/
def firstFlip (p : Byte) : Nat := (p.toNat * 65536 + 254) / 255

theorem flips_iff_firstFlip_le (p : Byte) (r : Draw) : flips p r = true ↔ firstFlip p ≤ r.toNat := by
  rw [flips_iff, firstFlip]
  omega

theorem flips_iff_knobValue_le (p : Byte) (r : Draw) : flips p r = true ↔ knobValue p ≤ drawValue r := by
  rw [flips_iff, knobValue, drawValue, kMax, div_le_div_iff₀ (by norm_num) (by norm_num)]
  exact_mod_cast Iff.rfl

/-- Code 255 never flips: its first flipping draw is 65536. -/
theorem flips_max (r : Draw) : flips 255 r = false := by
  rw [← Bool.not_eq_true, flips_iff_firstFlip_le]
  exact Nat.not_le.mpr r.isLt

/-- Code 0 always flips: its first flipping draw is 0. -/
theorem flips_zero (r : Draw) : flips 0 r = true :=
  (flips_iff_firstFlip_le 0 r).mpr (Nat.zero_le _)

theorem drawValue_range (r : Draw) : 0 ≤ drawValue r ∧ drawValue r < 1 := by
  have hr : (r.toNat : ℚ) < 65536 := by exact_mod_cast r.isLt
  exact ⟨by unfold drawValue; positivity, (div_lt_one (by norm_num)).mpr hr⟩

theorem knobValue_range (k : Byte) : 0 ≤ knobValue k ∧ knobValue k ≤ 1 := by
  have hk : k.toNat ≤ kMax := Nat.le_of_lt_succ k.isLt
  exact ⟨by unfold knobValue; positivity, div_le_one_of_le₀ (by exact_mod_cast hk) (Nat.cast_nonneg _)⟩

/-- Settles O19: the test on the denoted numbers, on the rounded threshold, and at both ends of the codes. -/
theorem flipIsTheExactComparison : Obligations.FlipIsTheExactComparison := by
  intro p r
  have hp := p.isLt
  have hr := r.isLt
  exact ⟨flips_iff_knobValue_le p r, flips_iff_firstFlip_le p r, flips_max r, flips_zero r, by omega, by omega,
    (drawValue_range r).left, (drawValue_range r).right, (knobValue_range p).left, (knobValue_range p).right⟩

/-- The numbers below `m` that are at least `n`. -/
theorem length_filter_le_range (n m : Nat) : ((List.range m).filter (fun r => n ≤ r)).length = m - n := by
  rw [← List.Ico.zero_bot, List.Ico.filter_le, List.Ico.length, Nat.zero_max]

/-- Settles O20: the flipping draws are those from `firstFlip` on. -/
theorem flippingDrawsAreCounted : Obligations.FlippingDrawsAreCounted := by
  intro p
  have hflips : ∀ r ∈ List.range 65536, flips p (BitVec.ofNat 16 r) = decide (firstFlip p ≤ r) := by
    intro r hr
    have hval : (BitVec.ofNat 16 r).toNat = r := Nat.mod_eq_of_lt (List.mem_range.mp hr)
    rw [Bool.eq_iff_iff, flips_iff_firstFlip_le, hval, decide_eq_true_iff]
  rw [List.filter_congr hflips, length_filter_le_range]
  exact Nat.sub_eq_sub_min ..

/-! ### The step as a number (R161, R165) -/

theorem toNat_eq_bitNat (b : Bool) : b.toNat = bitNat b := by cases b <;> rfl

/-- The new bit is appended below the register, and bit 15 of the old one drops out (R168). -/
theorem shiftStep_R_eq_concat (R : BitVec 16) (L : Nat) (prob : Byte) (r : Draw) :
    (shiftStep R L prob r).R = (R.concat (shiftStep R L prob r).nb).setWidth 16 := by
  refine BitVec.eq_of_getLsbD_eq fun i hi => ?_
  rw [shiftStep_bit R L prob r i hi, BitVec.getLsbD_setWidth, BitVec.getLsbD_concat, decide_eq_true hi, Bool.true_and]

theorem shiftStep_R_toNat (R : BitVec 16) (L : Nat) (prob : Byte) (r : Draw) :
    (shiftStep R L prob r).R.toNat = (2 * R.toNat + bitNat (shiftStep R L prob r).nb) % 65536 := by
  rw [shiftStep_R_eq_concat, BitVec.toNat_setWidth, BitVec.toNat_concat, Nat.mul_comm, toNat_eq_bitNat]

theorem stepPayload_toNat (R : BitVec 16) (b flip nb : Bool) :
    (stepPayload R b flip nb).toNat
      = R.toNat + 2 ^ 16 * bitNat b + 2 ^ 17 * bitNat flip + 2 ^ 18 * bitNat nb := by
  simp only [stepPayload, append_toNat, ofBool_toNat, BitVec.toNat_zero]
  omega

/-! ### The command (R160) -/

/-- The report of `SRSTEP`: no flags below the payload (R165). -/
def stepWord (rep : ShiftReport) : BitVec 32 := resultWord {} (stepPayload rep.R rep.b rep.flip rep.nb)

theorem stepWord_eq (rep : ShiftReport) :
    stepWord rep = BitVec.ofNat 32 (256 * rep.R.toNat + 2 ^ 24 * bitNat rep.b + 2 ^ 25 * bitNat rep.flip
      + 2 ^ 26 * bitNat rep.nb) := by
  have hflags : (flagByte {}).toNat = 0 := rfl
  rw [stepWord, resultWord_eq, stepPayload_toNat, hflags]
  congr 1
  omega

/-- What the step of `SRSTEP` answers: the code of knob main is the probability code. -/
def srstepReport (c : Channel) (km : Byte) (lm1 : BitVec 4) (r : Draw) (s : State) : ShiftReport :=
  shiftStep (s.pnsc.chan c).R (stepLength lm1) km r

/-- The state after `SRSTEP`. -/
def srstepNext (c : Channel) (km : Byte) (lm1 : BitVec 4) (r : Draw) (s : State) : State :=
  { s with pnsc := (s.pnsc.setR c (srstepReport c km lm1 r s).R).setResult (stepWord (srstepReport c km lm1 r s)) }

section Command

variable (c : Channel) (km : Byte) (lm1 : BitVec 4) (r : Draw) (s : State)

theorem exec_srstep : exec (.srstep c km lm1 r) s = .next (srstepNext c km lm1 r s) := rfl

@[simp] theorem srstepNext_R :
    ((srstepNext c km lm1 r s).pnsc.chan c).R = (shiftStep (s.pnsc.chan c).R (stepLength lm1) km r).R := by
  rw [srstepNext, Pnsc.chan_setResult, Pnsc.chan_setR_same, srstepReport]

end Command

/-- Settles O18: the report of the step, each component as the statement names it. -/
theorem srstepShiftsInTheNewBit : Obligations.SrstepShiftsInTheNewBit := by
  intro s c km lm1 r R b flip nb R'
  have hnb : (srstepReport c km lm1 r s).nb = nb := shiftStep_nb ..
  have hR : (srstepReport c km lm1 r s).R.toNat = R' := by
    rw [srstepReport, shiftStep_R_toNat, shiftStep_nb]
    rfl
  rw [exec_srstep, srstepNext, stepWord_eq, hR, hnb, eq_ofNat_of_toNat hR]
  rfl

/-! ### Loops of a fixed length (R166, R167) -/

/-- The draw matters only through the flip. -/
theorem shiftStep_congr {prob : Byte} {r r' : Draw} (h : flips prob r = flips prob r') (R : BitVec 16) (L : Nat) :
    shiftStep R L prob r = shiftStep R L prob r' := by
  simp only [shiftStep, h]

/-- The register after a step, for a probability code under which the draw does not matter. -/
def loopStep (L : Nat) (prob : Byte) (R : BitVec 16) : BitVec 16 := (shiftStep R L prob 0).R

section Loop

variable (L : Nat) (prob : Byte) (R : BitVec 16)

theorem loopStep_bit_zero : (loopStep L prob R).getLsbD 0 = (R.getLsbD (L - 1) ^^ flips prob 0) := by
  rw [loopStep, shiftStep_bit _ _ _ _ _ (by decide), if_pos rfl, shiftStep_nb]

theorem loopStep_bit_succ {i : Nat} (hi : i + 1 < 16) : (loopStep L prob R).getLsbD (i + 1) = R.getLsbD i := by
  rw [loopStep, shiftStep_bit _ _ _ _ _ hi, if_neg (Nat.succ_ne_zero i), Nat.add_sub_cancel]

/-- A bit moves up by one in every step. -/
theorem loopStep_iterate_bit_add {i n : Nat} (h : i + n < 16) :
    ((loopStep L prob)^[n] R).getLsbD (i + n) = R.getLsbD i := by
  induction n with
  | zero => rfl
  | succ n ih =>
    rw [Function.iterate_succ_apply', ← Nat.add_assoc, loopStep_bit_succ L prob _ (i := i + n) h]
    exact ih (Nat.lt_of_succ_lt h)

/-- Once around: a bit of the loop moves up to bit `L - 1`, is fed back, and moves up to its place again. -/
theorem loopStep_iterate_length_bit {i : Nat} (hi : i < L) (hL : L ≤ 16) :
    ((loopStep L prob)^[L] R).getLsbD i = (R.getLsbD i ^^ flips prob 0) := by
  obtain ⟨j, hj⟩ : ∃ j, L = i + (j + 1) := ⟨L - 1 - i, by omega⟩
  have hlast : L - 1 = i + j := by omega
  calc ((loopStep L prob)^[L] R).getLsbD i
      _ = ((loopStep L prob)^[i] (loopStep L prob ((loopStep L prob)^[j] R))).getLsbD (0 + i) := by
        rw [← Function.iterate_succ_apply' (loopStep L prob), ← Function.iterate_add_apply, ← hj, Nat.zero_add]
      _ = (loopStep L prob ((loopStep L prob)^[j] R)).getLsbD 0 := loopStep_iterate_bit_add _ _ _ (by omega)
      _ = (((loopStep L prob)^[j] R).getLsbD (i + j) ^^ flips prob 0) := by rw [loopStep_bit_zero, hlast]
      _ = (R.getLsbD i ^^ flips prob 0) := by rw [loopStep_iterate_bit_add _ _ _ (by omega)]

/-- Every bit below `k + L` repeats after `L` steps, complemented when the draws flip. -/
theorem loopStep_iterate_add_length_bit (hpos : 0 < L) (hL : L ≤ 16) (k : Nat) {i : Nat} (hi : i < 16)
    (hik : i < k + L) :
    ((loopStep L prob)^[k + L] R).getLsbD i = (((loopStep L prob)^[k] R).getLsbD i ^^ flips prob 0) := by
  induction k generalizing i with
  | zero =>
    rw [Nat.zero_add] at hik ⊢
    exact loopStep_iterate_length_bit L prob R hik hL
  | succ k ih =>
    cases i with
    | zero =>
      rw [Nat.add_comm, Function.iterate_add_apply]
      exact loopStep_iterate_length_bit L prob _ hpos hL
    | succ i =>
      rw [Nat.succ_add, Function.iterate_succ_apply', Function.iterate_succ_apply', loopStep_bit_succ _ _ _ hi,
        loopStep_bit_succ _ _ _ hi]
      exact ih (by omega) (by omega)

end Loop

theorem registerAt_cons_succ {i : Instr} {s t : State} (h : exec i s = .next t) (is : List Instr) (c : Channel)
    (k : Nat) : registerAt (i :: is) s c (k + 1) = registerAt is t c k := by
  rw [registerAt, stateAt, runInstrs_cons h, List.getElem?_cons_succ]
  rfl

/-- The register along a run of `SRSTEP` commands whose draws do not matter. -/
theorem registerAt_srstep {prob : Byte} (hdraws : ∀ r, flips prob r = flips prob 0) (s : State) (c : Channel)
    (lm1 : BitVec 4) (rs : List Draw) {k : Nat} (hk : k ≤ rs.length) :
    registerAt (rs.map (fun r => Instr.srstep c prob lm1 r)) s c k =
      some ((loopStep (stepLength lm1) prob)^[k] (s.pnsc.chan c).R) := by
  induction k generalizing rs s with
  | zero => rfl
  | succ k ih =>
    cases rs with
    | nil => exact absurd hk (Nat.not_succ_le_zero k)
    | cons r rs =>
      rw [List.map_cons, registerAt_cons_succ (exec_srstep c prob lm1 r s), ih _ rs (Nat.le_of_succ_le_succ hk),
        Function.iterate_succ_apply, srstepNext_R, shiftStep_congr (hdraws r), loopStep]

/-- Along such a run every bit below `k + L` repeats after `L` steps: complemented when the draws flip, else as it was. -/
theorem registerAt_add_length {prob : Byte} {f : Bool} (hdraws : ∀ r, flips prob r = f) (s : State) (c : Channel)
    (lm1 : BitVec 4) {rs : List Draw} {k : Nat} (hk : k + (lm1.toNat + 1) ≤ rs.length) :
    ∃ R R' : BitVec 16,
      registerAt (rs.map (fun r => Instr.srstep c prob lm1 r)) s c k = some R ∧
      registerAt (rs.map (fun r => Instr.srstep c prob lm1 r)) s c (k + (lm1.toNat + 1)) = some R' ∧
      ∀ i < 16, i < k + (lm1.toNat + 1) → R'.getLsbD i = (R.getLsbD i ^^ f) := by
  have hsame : ∀ r, flips prob r = flips prob 0 := fun r => (hdraws r).trans (hdraws 0).symm
  refine ⟨_, _, registerAt_srstep hsame s c lm1 rs (Nat.le_of_add_right_le hk), registerAt_srstep hsame s c lm1 rs hk,
    fun i hi hik => ?_⟩
  rw [← hdraws 0]
  exact loopStep_iterate_add_length_bit _ _ _ (Nat.succ_pos _) lm1.isLt k hi hik

/-- Settles O21: no draw flips, so every bit below `k + L` repeats. -/
theorem lockedLoopIsPeriodic : Obligations.LockedLoopIsPeriodic := by
  intro s c lm1 rs k hk run
  obtain ⟨R, R', hR, hR', hbits⟩ := registerAt_add_length flips_max s c lm1 hk
  simp only [Bool.xor_false] at hbits
  refine ⟨R, R', hR, hR', hbits 0 (by decide) (Nat.succ_pos _), fun h8 => ?_, fun h16 => ?_⟩
  · refine BitVec.eq_of_getLsbD_eq fun i hi => ?_
    rw [BitVec.getLsbD_extractLsb', BitVec.getLsbD_extractLsb', Nat.zero_add, hbits i (by omega) (by omega)]
  · exact BitVec.eq_of_getLsbD_eq fun i hi => hbits i hi (Nat.lt_of_lt_of_le hi h16)

/-- Settles O22: every draw flips, so every bit below `k + L` is complemented. -/
theorem flippedLoopAlternates : Obligations.FlippedLoopAlternates := by
  intro s c lm1 rs k hk run
  obtain ⟨R, R', hR, hR', hbits⟩ := registerAt_add_length flips_zero s c lm1 hk
  simp only [Bool.xor_true] at hbits
  refine ⟨R, R', hR, hR', hbits 0 (by decide) (Nat.succ_pos _), fun h16 => ?_⟩
  refine BitVec.eq_of_getLsbD_eq fun i hi => ?_
  rw [hbits i hi (Nat.lt_of_lt_of_le hi h16), BitVec.getLsbD_not, decide_eq_true hi, Bool.true_and]

end Sys2Proof.Machine
end

section
/-! PROOFS. The divider (43_divider.md): what `DIVTICK` counts and reports (R181, R182), and the period of its signal
under a constant divisor (R183). -/

namespace Sys2Proof.Machine

/-! ### The count (R181) -/

/-- Whether the count reaches the divisor at the next trigger. -/
def dividerAdvances (p : Pnsc) : Bool := decide (p.div.toNat ≤ p.divCnt.toNat + 1)

/-- The count after the next trigger, as a number. -/
def dividerCount (p : Pnsc) : Nat := if dividerAdvances p then 0 else p.divCnt.toNat + 1

theorem dividerAdvances_iff (p : Pnsc) : dividerAdvances p = true ↔ p.div.toNat ≤ p.divCnt.toNat + 1 :=
  decide_eq_true_iff

/-- The two helpers are the result of the divider. -/
theorem divtick_eq (p : Pnsc) :
    divtick p = (dividerAdvances p, p.setDivCnt (BitVec.ofNat 4 (dividerCount p))) := by
  rcases divtick_cases p with ⟨hreach, e⟩ | ⟨hbelow, e⟩
  · have hadv : dividerAdvances p = true := (dividerAdvances_iff p).mpr hreach
    rw [e, dividerCount, hadv, if_pos rfl]
    rfl
  · have hadv : dividerAdvances p = false := decide_eq_false (Nat.not_le.mpr hbelow)
    rw [e, dividerCount, hadv, if_neg Bool.false_ne_true]

theorem dividerCount_lt_div {p : Pnsc} (hpos : 1 ≤ p.div.toNat) : dividerCount p < p.div.toNat := by
  rw [dividerCount]
  split
  next => exact hpos
  next hadv => exact Nat.not_le.mp (mt (dividerAdvances_iff p).mpr hadv)

/-- A legal divisor keeps the count in its four bits. -/
theorem dividerCount_le {p : Pnsc} (hpos : 1 ≤ p.div.toNat) (hmax : p.div.toNat ≤ 16) : dividerCount p ≤ 15 :=
  Nat.le_of_lt_succ (Nat.lt_of_lt_of_le (dividerCount_lt_div hpos) hmax)

theorem dividerCount_toNat {p : Pnsc} (hfit : dividerCount p ≤ 15) :
    (BitVec.ofNat 4 (dividerCount p)).toNat = dividerCount p :=
  (BitVec.toNat_ofNat ..).trans (Nat.mod_eq_of_lt (Nat.lt_succ_of_le hfit))

/-- Below its divisor the count runs modulo the divisor. -/
theorem dividerCount_eq_mod {p : Pnsc} (hcnt : p.divCnt.toNat < p.div.toNat) :
    dividerCount p = (p.divCnt.toNat + 1) % p.div.toNat := by
  rw [dividerCount]
  split
  next hadv =>
    have hreach : p.divCnt.toNat + 1 = p.div.toNat :=
      Nat.le_antisymm hcnt ((dividerAdvances_iff p).mp hadv)
    rw [hreach, Nat.mod_self]
  next hadv => exact (Nat.mod_eq_of_lt (Nat.not_le.mp (mt (dividerAdvances_iff p).mpr hadv))).symm

/-- Below its divisor the count reaches the divisor exactly when it comes to a multiple of it. -/
theorem dividerAdvances_eq_dvd {p : Pnsc} (hcnt : p.divCnt.toNat < p.div.toNat) :
    dividerAdvances p = decide (p.div.toNat ∣ p.divCnt.toNat + 1) := by
  refine decide_eq_decide.mpr ⟨fun hreach => ?_, Nat.le_of_dvd (Nat.succ_pos _)⟩
  exact dvd_of_eq (Nat.le_antisymm hreach hcnt)

/-! ### The command (R180) -/

/-- The report of `DIVTICK` (R182). -/
def divtickWord (p : Pnsc) : BitVec 32 :=
  resultWord { adv2 := dividerAdvances p } (dividerPayload (BitVec.ofNat 4 (dividerCount p)))

/-- The state after `DIVTICK`. -/
def divtickNext (s : State) : State :=
  { s with pnsc := (s.pnsc.setDivCnt (BitVec.ofNat 4 (dividerCount s.pnsc))).setResult (divtickWord s.pnsc) }

theorem exec_divtick (s : State) : exec .divtick s = .next (divtickNext s) := by
  simp only [exec, execDivtick, divtick_eq]
  rfl

theorem divtickWord_eq {p : Pnsc} (hfit : dividerCount p ≤ 15) :
    divtickWord p = BitVec.ofNat 32 (8 * bitNat (dividerAdvances p) + 256 * dividerCount p) := by
  rw [divtickWord, resultWord_eq, flagByte_toNat, dividerPayload, append_toNat,
    dividerCount_toNat hfit]
  simp [bitNat]

/-- Bit 3 of `RESULT` is the signal to channel 2. -/
theorem divtickNext_adv2 (s : State) :
    (divtickNext s).pnsc.result.getLsbD 3 = dividerAdvances s.pnsc := by
  simp only [divtickNext, Pnsc.setResult_result, divtickWord, resultWord, flagByte, BitVec.getLsbD_append]
  simp

@[simp] theorem divtickNext_divCnt (s : State) :
    (divtickNext s).pnsc.divCnt = BitVec.ofNat 4 (dividerCount s.pnsc) := rfl

/-- Settles O24: the values the statement names are the signal and the count of the divider. -/
theorem divtickCounts : Obligations.DivtickCounts := by
  intro s hpos hmax n adv n'
  have hfit : dividerCount s.pnsc ≤ 15 := dividerCount_le hpos hmax
  refine ⟨dividerCount_lt_div hpos, hfit, ?_⟩
  rw [exec_divtick, divtickNext, divtickWord_eq hfit]
  rfl

/-! ### Runs under a constant divisor (R183) -/

theorem stateAt_cons_succ {i : Instr} {s t : State} (h : exec i s = .next t) (is : List Instr) (k : Nat) :
    stateAt (i :: is) s (k + 1) = stateAt is t k := by
  rw [stateAt, runInstrs_cons h, List.getElem?_cons_succ, stateAt]

/-- A run of one repeated instruction iterates its next-state function. -/
theorem stateAt_replicate {i : Instr} {f : State → State} (h : ∀ s, exec i s = .next (f s)) (s : State) {k j : Nat}
    (hj : j ≤ k) : stateAt (List.replicate k i) s j = some (f^[j] s) := by
  induction j generalizing k s with
  | zero => rfl
  | succ j ih =>
    cases k with
    | zero => exact absurd hj (Nat.not_succ_le_zero j)
    | succ k =>
      rw [List.replicate_succ, stateAt_cons_succ (h s), ih _ (Nat.le_of_succ_le_succ hj), Function.iterate_succ_apply]

/-- The divisor is `N`, and `j` triggers have been counted modulo `N`. -/
structure CountsModulo (N j : Nat) (p : Pnsc) : Prop where
  div : p.div.toNat = N
  divCnt : p.divCnt.toNat = j % N

theorem CountsModulo.divCnt_lt_div {N j : Nat} {p : Pnsc} (h : CountsModulo N j p) (hpos : 1 ≤ N) :
    p.divCnt.toNat < p.div.toNat := by
  rw [h.div, h.divCnt]
  exact Nat.mod_lt _ hpos

/-- Each `DIVTICK` counts one trigger more. -/
theorem CountsModulo.succ {N j : Nat} {s : State} (h : CountsModulo N j s.pnsc) (hpos : 1 ≤ N) (hmax : N ≤ 16) :
    CountsModulo N (j + 1) (divtickNext s).pnsc where
  div := h.div
  divCnt := by
    have hfit : dividerCount s.pnsc ≤ 15 := dividerCount_le (hpos.trans_eq h.div.symm) (h.div.trans_le hmax)
    rw [divtickNext_divCnt, dividerCount_toNat hfit, dividerCount_eq_mod (h.divCnt_lt_div hpos), h.div, h.divCnt,
      Nat.mod_add_mod]

theorem CountsModulo.iterate {N : Nat} {s : State} (h : CountsModulo N 0 s.pnsc) (hpos : 1 ≤ N)
    (hmax : N ≤ 16) (j : Nat) : CountsModulo N j (divtickNext^[j] s).pnsc := by
  induction j with
  | zero => exact h
  | succ j ih =>
    rw [Function.iterate_succ_apply']
    exact ih.succ hpos hmax

/-- The trigger that makes the count a multiple of the divisor is the one that signals. -/
theorem CountsModulo.advances {N j : Nat} {p : Pnsc} (h : CountsModulo N j p) (hpos : 1 ≤ N) :
    dividerAdvances p = decide (N ∣ j + 1) := by
  rw [dividerAdvances_eq_dvd (h.divCnt_lt_div hpos), h.div, h.divCnt]
  simp only [Nat.dvd_iff_mod_eq_zero, Nat.mod_add_mod]

/-- Settles O25: before the trigger `j + 1` the count is `j` modulo the divisor, and the report of that trigger follows
from it. -/
theorem divtickSignalsEveryNth : Obligations.DivtickSignalsEveryNth := by
  intro s k j hpos hmax hzero hj
  have hstart : CountsModulo s.pnsc.div.toNat 0 s.pnsc := ⟨rfl, hzero.trans (Nat.zero_mod _).symm⟩
  refine ⟨_, stateAt_replicate exec_divtick s hj, ?_⟩
  rw [Function.iterate_succ_apply', divtickNext_adv2, (hstart.iterate hpos hmax j).advances hpos]

end Sys2Proof.Machine
end

section
/-! PROOFS. The quantizer (44_quantizer.md): the note of a byte and its ranges (R191 to R196), the pitch as a rising
function of the byte (R198), the modulation value (R197), and what `QUANT` and `EMIT` do (R199, R200). -/

namespace Sys2Proof.Machine

/-! ### The quantizer's part of a configuration (R9) -/

/-- The constraints of R9 that the quantizer depends on. -/
structure QuantizerOk (c : Config) : Prop where
  scaleCount : c.scaleRom.length = nScales
  scaleNonempty : ∀ sc ∈ c.scaleRom, 0 < sc.length
  entriesBelowOctave : ∀ sc ∈ c.scaleRom, ∀ x ∈ sc, x ≤ 11
  spanInOctaves : ∀ sc ∈ c.scaleRom, c.noteSpan ≤ 16 * sc.length
  spanPositive : 1 ≤ c.noteSpan
  baseRange : c.baseNote ≤ 127
  refRange : c.refNote ≤ 127

theorem scaleOk_iff {c : Config} {sc : List Nat} :
    c.scaleOk sc = true ↔ 0 < sc.length ∧ (∀ x ∈ sc, x ≤ 11) ∧ c.noteSpan ≤ 16 * sc.length := by
  simp [Config.scaleOk, and_assoc, List.length_pos_iff]

theorem quantizerOk_of_wellFormed {c : Config} (h : c.wellFormed = true) : QuantizerOk c := by
  simp only [Config.wellFormed, Config.scaleRomOk, Config.noteSpanOk, Config.notesOk, Bool.and_eq_true,
    decide_eq_true_eq, List.all_eq_true, scaleOk_iff] at h
  obtain ⟨⟨⟨⟨⟨⟨⟨-, ⟨hcount, -⟩, hscales⟩, hspan, -⟩, hbase, href⟩, -⟩, -⟩, -⟩, -⟩ := h
  exact ⟨hcount, fun sc hsc => (hscales sc hsc).1, fun sc hsc => (hscales sc hsc).2.1,
    fun sc hsc => (hscales sc hsc).2.2, hspan, hbase, href⟩

/-! ### The scale of an index (R193) -/

/-- The entry of `SCALE_ROM` that a scale index selects. -/
def scaleSlot (si : Int) : Nat := if 0 ≤ si ∧ si ≤ 6 then si.toNat else 0

theorem scaleSlot_natCast (n : Nat) : scaleSlot n = if n ≤ 6 then n else 0 := by
  simp [scaleSlot]

theorem getElem?_scaleSlot {c : Config} (hcount : c.scaleRom.length = nScales) (si : Int) :
    c.scaleRom[scaleSlot si]? = some (scaleOf c si) := by
  have hslot : scaleSlot si < c.scaleRom.length := by
    rw [hcount, scaleSlot, nScales]
    split <;> omega
  have hscale : scaleOf c si = c.scaleRom.getD (scaleSlot si) [] := by
    rw [scaleOf, scaleSlot]
    split <;> rfl
  rw [hscale, List.getD_eq_getElem _ _ hslot, List.getElem?_eq_getElem hslot]

/-- Every scale index, the invalid ones too, selects a scale of the table. -/
theorem scaleOf_mem {c : Config} (hcount : c.scaleRom.length = nScales) (si : Int) : scaleOf c si ∈ c.scaleRom :=
  List.mem_of_getElem? (getElem?_scaleSlot hcount si)

/-! ### The note of a byte (R191, R194, R195) -/

section Note

variable (c : Config) (v : Byte) (si : Int)

theorem noteIndex_eq : noteIndex c v = v.toNat * c.noteSpan / 256 := Nat.shiftRight_eq_div_pow ..

theorem noteIndex_lt (hspan : 1 ≤ c.noteSpan) : noteIndex c v < c.noteSpan := by
  rw [noteIndex_eq, Nat.div_lt_iff_lt_mul (by decide), Nat.mul_comm]
  exact Nat.mul_lt_mul_of_pos_left v.isLt hspan

theorem noteIndex_mono {v v' : Byte} (h : v.toNat ≤ v'.toNat) : noteIndex c v ≤ noteIndex c v' := by
  rw [noteIndex_eq, noteIndex_eq]
  exact Nat.div_le_div_right (Nat.mul_le_mul_right _ h)

theorem quant_oct : (quant c v si).oct = noteIndex c v / (scaleOf c si).length := rfl

theorem quant_S :
    (quant c v si).S = (c.baseNote : Int) + 12 * (quant c v si).oct + (quant c v si).pcl - c.refNote := rfl

theorem quant_pcl_getElem? (hpos : 0 < (scaleOf c si).length) :
    (scaleOf c si)[noteIndex c v % (scaleOf c si).length]? = some (quant c v si).pcl := by
  have hmod : noteIndex c v % (scaleOf c si).length < (scaleOf c si).length := Nat.mod_lt _ hpos
  rw [List.getElem?_eq_getElem hmod, ← List.getD_eq_getElem _ 0 hmod]
  rfl

end Note

/-- The ranges of R196. -/
structure Note.InRange (n : Note) : Prop where
  pcl_le : n.pcl ≤ 11
  oct_le : n.oct ≤ 15
  S_ge : -127 ≤ n.S
  S_le : n.S ≤ 318

theorem quant_pcl_mem {c : Config} (h : QuantizerOk c) (v : Byte) (si : Int) : (quant c v si).pcl ∈ scaleOf c si :=
  List.mem_of_getElem? (quant_pcl_getElem? c v si (h.scaleNonempty _ (scaleOf_mem h.scaleCount si)))

theorem quant_inRange {c : Config} (h : QuantizerOk c) (v : Byte) (si : Int) : (quant c v si).InRange := by
  have hscale := scaleOf_mem h.scaleCount si
  have hpcl : (quant c v si).pcl ≤ 11 := h.entriesBelowOctave _ hscale _ (quant_pcl_mem h v si)
  have hoct : (quant c v si).oct ≤ 15 := by
    rw [quant_oct, ← Nat.lt_succ_iff, Nat.div_lt_iff_lt_mul (h.scaleNonempty _ hscale)]
    exact Nat.lt_of_lt_of_le (noteIndex_lt c v h.spanPositive) (h.spanInOctaves _ hscale)
  have hbase := h.baseRange
  have href := h.refRange
  have hS := quant_S c v si
  exact ⟨hpcl, hoct, by omega, by omega⟩

/-! ### The fields of a note (R32, R199) -/

theorem Note.InRange.pclBits_toNat {n : Note} (h : n.InRange) : n.pclBits.toNat = n.pcl := by
  have := h.pcl_le
  rw [Note.pclBits, BitVec.toNat_ofNat]
  omega

theorem Note.InRange.octBits_toNat {n : Note} (h : n.InRange) : n.octBits.toNat = n.oct := by
  have := h.oct_le
  rw [Note.octBits, BitVec.toNat_ofNat]
  omega

theorem Note.InRange.SBits_toInt {n : Note} (h : n.InRange) : n.SBits.toInt = n.S := by
  have hlow := h.S_ge
  have hhigh := h.S_le
  exact BitVec.toInt_ofInt_eq_self (by decide) (by omega) (by omega)

theorem Note.SBits_toNat (n : Note) : n.SBits.toNat = (n.S % 65536).toNat := BitVec.toNat_ofInt ..

theorem notePayload_toNat (pcl oct : BitVec 4) (S : BitVec 16) :
    (notePayload pcl oct S).toNat = pcl.toNat + 16 * oct.toNat + 256 * S.toNat := by
  simp only [notePayload, append_toNat]
  omega

/-- The report of `QUANT` and `EMIT`: no flags below the payload. -/
def noteWord (n : Note) : BitVec 32 := resultWord {} (notePayload n.pclBits n.octBits n.SBits)

theorem Note.InRange.noteWord_eq {n : Note} (h : n.InRange) :
    noteWord n = BitVec.ofNat 32 (256 * n.pcl + 4096 * n.oct + 65536 * (n.S % 65536).toNat) := by
  have hflags : (flagByte {}).toNat = 0 := rfl
  rw [noteWord, resultWord_eq, notePayload_toNat, hflags, h.pclBits_toNat, h.octBits_toNat, n.SBits_toNat]
  congr 1
  omega

/-- Settles O27: the ranges of the note make each field hold its value. -/
theorem notesFitTheirFields : Obligations.NotesFitTheirFields := by
  intro c v si hwf
  have hc := quantizerOk_of_wellFormed hwf
  have hnote := quant_inRange hc v si
  exact ⟨noteIndex_lt c v hc.spanPositive, hnote.oct_le, quant_pcl_mem hc v si, hnote.pcl_le, hnote.S_ge, hnote.S_le,
    hnote.pclBits_toNat, hnote.octBits_toNat, hnote.SBits_toInt⟩

/-! ### `QUANT` (R199) -/

theorem exec_quant (v : Byte) (sc : BitVec 3) (s : State) :
    exec (.quant v sc) s = .next { s with pnsc := s.pnsc.setResult (noteWord (quant s.cfg v sc.toNat)) } := rfl

/-- Settles O26: the scale is the selected entry of the table and the pitch class its entry. -/
theorem quantReportsTheNote : Obligations.QuantReportsTheNote := by
  intro s v sc hwf
  have hc := quantizerOk_of_wellFormed hwf
  have hscale := getElem?_scaleSlot hc.scaleCount sc.toNat
  have hpcl := quant_pcl_getElem? s.cfg v sc.toNat (hc.scaleNonempty _ (scaleOf_mem hc.scaleCount _))
  rw [scaleSlot_natCast] at hscale
  rw [noteIndex_eq] at hpcl
  refine ⟨scaleOf s.cfg sc.toNat, (quant s.cfg v sc.toNat).pcl, hscale, hpcl, ?_⟩
  rw [exec_quant, (quant_inRange hc v sc.toNat).noteWord_eq, quant_S, quant_oct, noteIndex_eq]
  rfl

/-! ### The pitch rises with the byte (R198) -/

/-- The distance of a note index from the base note, in semitones (R194, R195). -/
def semitones (sc : List Nat) (n : Nat) : Nat := 12 * (n / sc.length) + sc.getD (n % sc.length) 0

theorem quant_S_eq_semitones (c : Config) (v : Byte) (si : Int) :
    (quant c v si).S = (c.baseNote : Int) + semitones (scaleOf c si) (noteIndex c v) - c.refNote := by
  rw [quant_S, semitones, Nat.cast_add, Nat.cast_mul, ← Int.add_assoc]
  rfl

theorem getD_lt_twelve {sc : List Nat} (hbelow : ∀ x ∈ sc, x < 12) (i : Nat) : sc.getD i 0 < 12 := by
  rcases Nat.lt_or_ge i sc.length with hi | hi
  · rw [List.getD_eq_getElem _ _ hi]
    exact hbelow _ (List.getElem_mem hi)
  · rw [List.getD_eq_default _ _ hi]
    decide

theorem getD_mono_of_pairwise {sc : List Nat} (hrise : sc.Pairwise (· < ·)) {i j : Nat} (hij : i ≤ j)
    (hj : j < sc.length) : sc.getD i 0 ≤ sc.getD j 0 := by
  rw [List.getD_eq_getElem _ _ (hij.trans_lt hj), List.getD_eq_getElem _ _ hj]
  exact hrise.sortedLT.sortedLE.getElem_le_getElem_of_le hij

/-- Within an octave the entries rise; from one octave to a later one the twelve semitones outweigh every entry. -/
theorem semitones_mono {sc : List Nat} (hrise : sc.Pairwise (· < ·)) (hbelow : ∀ x ∈ sc, x < 12) :
    Monotone (semitones sc) := by
  intro n m hnm
  rcases Nat.eq_zero_or_pos sc.length with hnil | hpos
  · obtain rfl := List.length_eq_zero_iff.mp hnil
    exact le_of_eq (by simp [semitones])
  · rw [semitones, semitones]
    rcases Nat.eq_or_lt_of_le (Nat.div_le_div_right (c := sc.length) hnm) with hoct | hoct
    · have hmod : n % sc.length ≤ m % sc.length := by
        rw [Nat.mod_eq_sub_mul_div, Nat.mod_eq_sub_mul_div, hoct]
        exact Nat.sub_le_sub_right hnm _
      rw [hoct]
      exact Nat.add_le_add_left (getD_mono_of_pairwise hrise hmod (Nat.mod_lt _ hpos)) _
    · have hentry := getD_lt_twelve hbelow (n % sc.length)
      omega

theorem quant_S_mono {c : Config} {si : Int} (hrise : (scaleOf c si).Pairwise (· < ·))
    (hbelow : ∀ x ∈ scaleOf c si, x < 12) {v v' : Byte} (h : v.toNat ≤ v'.toNat) :
    (quant c v si).S ≤ (quant c v' si).S := by
  have hsemi := semitones_mono hrise hbelow (noteIndex_mono c h)
  rw [quant_S_eq_semitones, quant_S_eq_semitones]
  omega

theorem scaleRomP0_rises : ∀ sc ∈ Config.p0.scaleRom, sc.Pairwise (· < ·) ∧ ∀ x ∈ sc, x < 12 := by decide

/-- Settles O28: under P0 every scale index selects a scale of the table, and all of these rise. -/
theorem pitchRisesWithTheByte : Obligations.PitchRisesWithTheByte := by
  refine ⟨fun c si v v' hrise hbelow h => quant_S_mono hrise hbelow h, rfl, scaleRomP0_rises, fun si v v' h => ?_⟩
  obtain ⟨hrise, hbelow⟩ := scaleRomP0_rises _ (scaleOf_mem rfl si)
  exact quant_S_mono hrise hbelow h

/-! ### The modulation value (R197) -/

theorem modval_range (v : Byte) : -255 ≤ modval v ∧ modval v ≤ 255 := by
  have := v.isLt
  rw [modval]
  omega

/-- Twice a byte is even, so no byte is at the centre. -/
theorem modval_ne_zero (v : Byte) : modval v ≠ 0 := by
  rw [modval]
  omega

theorem ofInt_modval_toInt (v : Byte) : (BitVec.ofInt 16 (modval v)).toInt = modval v := by
  obtain ⟨hlow, hhigh⟩ := modval_range v
  exact BitVec.toInt_ofInt_eq_self (by decide) (by omega) (by omega)

theorem modulationValue_modval (v : Byte) :
    modulationValue (BitVec.ofInt 16 (modval v)) = (v.toNat : ℚ) / 255 - 1 / 2 := by
  rw [modulationValue, ofInt_modval_toInt, modval]
  push_cast
  ring

/-- Settles O29: the field is read as the integer itself, which fits it. -/
theorem modulationIsCentred : Obligations.ModulationIsCentred := fun v =>
  ⟨ofInt_modval_toInt v, (modval_range v).1, (modval_range v).2, modval_ne_zero v, rfl, rfl, rfl, rfl,
    modulationValue_modval v⟩

/-! ### `EMIT` (R200) -/

theorem exec_emit (ch : Channel) (now : Time) (s : State) :
    exec (.emit ch now) s = .next { s with
      pnsc := (s.pnsc.setChan ch (emitted s.cfg s.pnsc.scaleIdx now (s.pnsc.chan ch))).setResult
        (noteWord (quant s.cfg (lowByte (s.pnsc.chan ch).R) s.pnsc.scaleIdx.toNat)) } := by
  rw [← emit_pnsc]
  rfl

theorem lowByte_eq_ofNat (R : BitVec 16) : lowByte R = BitVec.ofNat 8 R.toNat := rfl

/-- Settles O30: the channel's record is `emitted`, field by field. -/
theorem emitWritesTheOutputs : Obligations.EmitWritesTheOutputs := by
  intro s ch now hwf x note
  have hnote : note.InRange := quant_inRange (quantizerOk_of_wellFormed hwf) _ _
  rw [exec_emit, lowByte_eq_ofNat, hnote.noteWord_eq]
  rfl

end Sys2Proof.Machine
end

section
/-! PROOFS. The pulse generator (45_pulse.md): the envelope as a sequence of levels (R223), what `PTRIG` does (R220,
R221), and the pulses of a tick (R222). -/

namespace Sys2Proof.Machine

/-! ### One unit of decay (R223) -/

/-- The multiplier is below 1, so a unit of decay lowers every level but 0. -/
theorem mul_div_lt_of_pos {v k : Nat} (hk : k ≤ 65535) (hv : 0 < v) : v * k / 65536 < v := by
  have hlt : v * k < v * 65536 := Nat.mul_lt_mul_of_pos_left (by omega) hv
  exact Nat.div_lt_of_lt_mul (by omega)

/-- One time unit more of decay, at its end. -/
theorem decay_succ_last (k n v : Nat) : decay k (n + 1) v = decay k n v * k / 65536 := by
  induction n generalizing v with
  | zero => rw [decay_succ, decay, decay, Nat.shiftRight_eq_div_pow]
  | succ n ih => rw [decay_succ, ih, ← decay_succ]

/-! ### The envelope (R223) -/

theorem env_of_le_hold {c : Config} {d : Nat} (h : d ≤ c.pulseHold) : env c d = 65535 := if_pos h

/-- From the end of the hold on, the level has decayed for each unit since; at that end both parts of R223 agree. -/
theorem env_hold_add (c : Config) (n : Nat) : env c (c.pulseHold + n) = decay c.pulseK n 65535 := by
  cases n with
  | zero => exact env_of_le_hold le_rfl
  | succ n =>
    have hpast : ¬ c.pulseHold + (n + 1) ≤ c.pulseHold := by omega
    rw [env, if_neg hpast, Nat.add_sub_cancel_left, pulseFull]

theorem env_succ {c : Config} {d : Nat} (h : c.pulseHold ≤ d) : env c (d + 1) = env c d * c.pulseK / 65536 := by
  obtain ⟨n, rfl⟩ := Nat.exists_eq_add_of_le h
  rw [Nat.add_assoc, env_hold_add, env_hold_add, decay_succ_last]

theorem env_succ_lt {c : Config} (hk : c.pulseK ≤ 65535) {d : Nat} (h : c.pulseHold ≤ d) (hpos : 0 < env c d) :
    env c (d + 1) < env c d :=
  (env_succ h).trans_lt (mul_div_lt_of_pos hk hpos)

/-- The level loses at least 1 in each unit after the hold, until none is left. -/
theorem env_hold_add_le {c : Config} (hk : c.pulseK ≤ 65535) (n : Nat) : env c (c.pulseHold + n) ≤ 65535 - n := by
  induction n with
  | zero => exact env_le hk _
  | succ n ih =>
    rcases Nat.eq_zero_or_pos (env c (c.pulseHold + n)) with hzero | hpos
    · have hnext : env c (c.pulseHold + n + 1) = 0 := by rw [env_succ (Nat.le_add_right ..), hzero, Nat.zero_mul]
      exact hnext.trans_le (Nat.zero_le _)
    · have hlt : env c (c.pulseHold + n + 1) < env c (c.pulseHold + n) := env_succ_lt hk (Nat.le_add_right ..) hpos
      rw [← Nat.add_assoc]
      omega

theorem env_eq_zero {c : Config} (hk : c.pulseK ≤ 65535) {d : Nat} (h : c.pulseHold + 65535 ≤ d) : env c d = 0 := by
  obtain ⟨n, rfl⟩ := Nat.exists_eq_add_of_le (Nat.le_of_add_right_le h)
  have hle := env_hold_add_le hk n
  omega

/-- Settles O31: the level falls by at least 1 in each unit after the hold, and it starts at 65535. -/
theorem envelopeDecaysToZero : Obligations.EnvelopeDecaysToZero := fun _ hk _ =>
  ⟨env_of_le_hold,
    fun h => ⟨env_succ h, (Nat.eq_zero_or_pos _).symm.imp_left (env_succ_lt hk h)⟩,
    env_eq_zero hk⟩

/-! ### `PTRIG` (R220, R221) -/

theorem exec_ptrig (ch : Channel) (now : Time) (s : State) :
    exec (.ptrig ch now) s = .next { s with pnsc := (ptrig ch now s.pnsc).setResult 0 } := rfl

/-- An active channel is at the full level at the time of its trigger, whatever the hold (R223, R224). -/
theorem penv_at_trigger (c : Config) {p : Pnsc} {ch : Channel} {now : Time} (hact : (p.chan ch).act = true)
    (htime : (p.chan ch).ptime = now) : penv c p ch now = 65535 := by
  rw [penv_active c p hact, htime, tdiff_self]
  exact env_of_le_hold (Nat.zero_le _)

/-- Settles O32: the trigger writes its channel's record only, and the age of the pulse is 0 at that time. -/
theorem ptrigStartsAFullPulse : Obligations.PtrigStartsAFullPulse := by
  intro s ch now
  have hchan : ((ptrig ch now s.pnsc).setResult 0).chan ch = { s.pnsc.chan ch with act := true, ptime := now } := by
    rw [Pnsc.chan_setResult, ptrig_chan_same]
  exact ⟨_, exec_ptrig ch now s, rfl, penv_at_trigger s.cfg (by rw [hchan]) (by rw [hchan])⟩

/-! ### The advance flags of `RESULT` (R266) -/

/-- Bit 2 of `RESULT` is the flag of channel 1's advance. -/
theorem resultWord_getLsbD_adv1 (f : ResultFlags) (payload : BitVec 24) :
    (resultWord f payload).getLsbD 2 = f.adv1 := by
  simp only [resultWord, flagByte, BitVec.getLsbD_append]
  simp

/-- Bit 3 of `RESULT` is the flag of channel 2's advance. -/
theorem resultWord_getLsbD_adv2 (f : ResultFlags) (payload : BitVec 24) :
    (resultWord f payload).getLsbD 3 = f.adv2 := by
  simp only [resultWord, flagByte, BitVec.getLsbD_append]
  simp

/-! ### The pulses of phase (c) (R222, R263) -/

/-- The pulse state of a channel record `y` that comes from `x`: triggered at `now` if the channel advanced, and kept
if not. -/
def PulseFollows (adv : Bool) (now : Time) (x y : ChanState) : Prop :=
  if adv then y.act = true ∧ y.ptime = now else y.act = x.act ∧ y.ptime = x.ptime

theorem PulseFollows.kept (now : Time) (x : ChanState) : PulseFollows false now x x := ⟨rfl, rfl⟩

theorem advance_pulseFollows (c : Config) (ch : Channel) (prob : Byte) (r : Draw) (now : Time) (p : Pnsc)
    (x : ChanState) : PulseFollows true now x ((advance c ch prob r now p).chan ch) := by
  rw [advance_pnsc, Pnsc.chan_setChan_same]
  exact ⟨rfl, rfl⟩

theorem advance_chan_other (c : Config) {ch d : Channel} (h : d ≠ ch) (prob : Byte) (r : Draw) (now : Time)
    (p : Pnsc) : (advance c ch prob r now p).chan d = p.chan d := by
  rw [advance_pnsc, p.chan_setChan_other h]

section AdvancePhase

variable (c : Config) (trig : Bool) (prob : Byte) (r1 r2 : Draw) (now : Time) (p : Pnsc)

/-- Channel 1 advances on the trigger; what follows in the phase leaves it alone. -/
theorem advancePhase_pulseFollows_ch1 :
    PulseFollows trig now (p.chan .ch1) ((advancePhase c trig prob r1 r2 now p).2.chan .ch1) := by
  cases trig with
  | false => exact .kept now _
  | true =>
    have hfirst : (advancePhase c true prob r1 r2 now p).2.chan .ch1 = (advance c .ch1 prob r1 now p).chan .ch1 := by
      rw [advancePhase_trig]
      split
      · rw [advance_chan_other c (by decide), divtick_chan]
      · rw [divtick_chan]
    rw [hfirst]
    exact advance_pulseFollows ..

/-- Channel 2 advances when the divider signals; what precedes it in the phase leaves it alone. -/
theorem advancePhase_pulseFollows_ch2 :
    PulseFollows (advancePhase c trig prob r1 r2 now p).1 now (p.chan .ch2)
      ((advancePhase c trig prob r1 r2 now p).2.chan .ch2) := by
  cases trig with
  | false => exact .kept now _
  | true =>
    rw [advancePhase_trig]
    cases (divtick (advance c .ch1 prob r1 now p)).1 with
    | true =>
      rw [if_pos rfl]
      exact advance_pulseFollows c .ch2 prob r2 now _ _
    | false =>
      have hkept : (divtick (advance c .ch1 prob r1 now p)).2.chan .ch2 = p.chan .ch2 := by
        rw [divtick_chan, advance_chan_other c (by decide)]
      rw [if_neg Bool.false_ne_true, hkept]
      exact .kept now _

end AdvancePhase

/-! ### `TICK` (R260, R222) -/

section Tick

variable (sel : BitVec 2) (clk mod kx ky km : Byte) (now : Time) (r1 r2 : Draw) (s : State)

/-- What phase (b) of a tick reports and leaves, after phase (a). -/
def tickTrigger : TriggerReport × Pnsc :=
  triggerPhase s.cfg sel clk now (resolve s.cfg sel mod kx ky now s.pnsc).2

/-- What phase (c) of a tick answers and leaves, after phases (a) and (b). -/
def tickAdvance : Bool × Pnsc :=
  advancePhase s.cfg (tickTrigger sel clk mod kx ky now s).1.trig (probabilityOf km) r1 r2 now
    (tickTrigger sel clk mod kx ky now s).2

/-- The state after `TICK`. -/
def tickNext : State :=
  { s with
    pnsc := (display s.cfg now (tickAdvance sel clk mod kx ky km now r1 r2 s).2).2.setResult
      (tickReport s.cfg sel clk mod kx ky km now r1 r2 s.pnsc) }

theorem exec_tick :
    exec (.tick sel clk mod kx ky km now r1 r2) s = .next (tickNext sel clk mod kx ky km now r1 r2 s) := rfl

@[simp] theorem tickTrigger_chan (d : Channel) :
    (tickTrigger sel clk mod kx ky now s).2.chan d = s.pnsc.chan d := by
  rw [tickTrigger, triggerPhase_chan, resolve_chan]

/-- Phase (d) and the report leave the channels as phase (c) left them. -/
@[simp] theorem tickNext_chan (d : Channel) :
    (tickNext sel clk mod kx ky km now r1 r2 s).pnsc.chan d =
      (tickAdvance sel clk mod kx ky km now r1 r2 s).2.chan d := by
  rw [tickNext, Pnsc.chan_setResult, display_chan]

@[simp] theorem tickNext_adv1 :
    (tickNext sel clk mod kx ky km now r1 r2 s).pnsc.result.getLsbD 2 =
      (tickTrigger sel clk mod kx ky now s).1.trig :=
  resultWord_getLsbD_adv1 ..

@[simp] theorem tickNext_adv2 :
    (tickNext sel clk mod kx ky km now r1 r2 s).pnsc.result.getLsbD 3 =
      (tickAdvance sel clk mod kx ky km now r1 r2 s).1 :=
  resultWord_getLsbD_adv2 ..

theorem tickNext_pulseFollows_ch1 :
    PulseFollows ((tickNext sel clk mod kx ky km now r1 r2 s).pnsc.result.getLsbD 2) now (s.pnsc.chan .ch1)
      ((tickNext sel clk mod kx ky km now r1 r2 s).pnsc.chan .ch1) := by
  rw [tickNext_adv1, tickNext_chan, ← tickTrigger_chan sel clk mod kx ky now s]
  exact advancePhase_pulseFollows_ch1 ..

theorem tickNext_pulseFollows_ch2 :
    PulseFollows ((tickNext sel clk mod kx ky km now r1 r2 s).pnsc.result.getLsbD 3) now (s.pnsc.chan .ch2)
      ((tickNext sel clk mod kx ky km now r1 r2 s).pnsc.chan .ch2) := by
  rw [tickNext_adv2, tickNext_chan, ← tickTrigger_chan sel clk mod kx ky now s]
  exact advancePhase_pulseFollows_ch2 ..

end Tick

/-- Settles O55: channel 1 advances on the reported trigger, channel 2 on the divider's reported signal, and only an
advance writes a pulse state. -/
theorem anAdvanceTriggersThePulse : Obligations.AnAdvanceTriggersThePulse :=
  fun s sel clk mod kx ky km now r1 r2 => ⟨_, exec_tick sel clk mod kx ky km now r1 r2 s,
    tickNext_pulseFollows_ch1 sel clk mod kx ky km now r1 r2 s,
    tickNext_pulseFollows_ch2 sel clk mod kx ky km now r1 r2 s⟩

end Sys2Proof.Machine
end

section
/-! PROOFS. The discrete selections (46_selection.md): the indices into the tables (R241 to R246), what `RESOLVE`
writes (R247, R250), and its report (R248). -/

namespace Sys2Proof.Machine

/-! ### The indices (R241 to R246) -/

theorem clamp_eq_max_min {lo hi : Int} (v : Int) (h : lo ≤ hi) : clamp v lo hi = max lo (min hi v) := by
  unfold clamp
  split
  · omega
  · split <;> omega

theorem lengthIndex_eq_div (kx : Byte) : lengthIndex kx = kx.toNat / 32 := Nat.shiftRight_eq_div_pow ..

/-- A knob's length index is inside the table, so it is stored as it is (R250). -/
theorem storedLengthIndex_lengthIndex (kx : Byte) : storedLengthIndex (lengthIndex kx) = lengthIndex kx :=
  if_pos (lengthIndex_le kx)

theorem divisorIndex_eq_div (c : Config) (ky mod : Byte) :
    divisorIndex c ky mod = (max 0 (min 255 ((ky.toNat : Int) + mod.toNat - c.modBias))).toNat / 32 := by
  rw [divisorIndex, combined, clamp_eq_max_min _ (by decide), Nat.shiftRight_eq_div_pow]

/-- A missing entry resolves like an entry of 0 (R246). -/
theorem scaleIndex_of_entry {c : Config} {sel : BitVec 2} {entry : Int}
    (h : (scaleEntry c sel).getD 0 = entry) :
    scaleIndex c sel = if 0 ≤ entry ∧ entry ≤ 6 then entry.toNat else 0 := by
  subst h
  unfold scaleIndex
  cases scaleEntry c sel <;> rfl

theorem scaleEntry_getD (c : Config) (sel : BitVec 2) :
    (scaleEntry c sel).getD 0 = if sel.toNat ≤ 2 then c.scaleOfSel.getD sel.toNat 0 else 0 := by
  unfold scaleEntry
  split
  · rw [List.getD_eq_getElem?_getD]
  · rfl

/-! ### The operation (R247, R250) -/

/-- A resolved length fits its register, so the change is one of numbers. -/
theorem resolve_changed_eq (c : Config) (sel : BitVec 2) (mod kx ky : Byte) (now : Time) (p : Pnsc) :
    (resolve c sel mod kx ky now p).1 = decide (lengthOf (lengthIndex kx) ≠ p.len.toNat) := by
  have hrange := lengthOf_range (lengthIndex_le kx)
  rw [resolve_changed]
  refine decide_eq_decide.mpr (not_congr ?_)
  rw [← BitVec.toNat_inj, BitVec.toNat_ofNat, Nat.mod_eq_of_lt (by omega)]

/-- The window's two registers, whether or not the window opens. -/
theorem openWindow_if (b : Bool) (now : Time) (p : Pnsc) :
    (if b then p.openWindow now else p) =
      { p with lenTime := if b then now else p.lenTime, disp := b || p.disp } := by
  cases b <;> rfl

/-! ### The report (R248) -/

theorem selectionPayload_toNat (len div : BitVec 5) (scaleIdx : BitVec 3) (prob : Byte) :
    (selectionPayload len div scaleIdx prob).toNat
      = len.toNat + 2 ^ 5 * div.toNat + 2 ^ 10 * scaleIdx.toNat + 2 ^ 13 * prob.toNat := by
  simp only [selectionPayload, append_toNat, BitVec.toNat_zero]
  omega

/-- The report of `RESOLVE` (R248): one flag, and the selections above it. -/
def selectionWord (lenchg : Bool) (L D si : Nat) (km : Byte) : BitVec 32 :=
  resultWord { lenchg := lenchg }
    (selectionPayload (BitVec.ofNat 5 L) (BitVec.ofNat 5 D) (BitVec.ofNat 3 si) (probabilityOf km))

theorem selectionWord_eq {L D si : Nat} (hL : L ≤ 16) (hD : D ≤ 16) (hsi : si ≤ 6) (lenchg : Bool) (km : Byte) :
    selectionWord lenchg L D si km = BitVec.ofNat 32
      (64 * bitNat lenchg + 256 * L + 8192 * D + 2 ^ 18 * si + 2 ^ 21 * km.toNat) := by
  have hflags : (flagByte { lenchg := lenchg }).toNat = 64 * bitNat lenchg := by
    rw [flagByte_toNat]
    simp [bitNat]
  rw [selectionWord, resultWord_eq, selectionPayload_toNat, hflags, probabilityOf, BitVec.toNat_ofNat,
    BitVec.toNat_ofNat, BitVec.toNat_ofNat, Nat.mod_eq_of_lt (by omega : L < 2 ^ 5),
    Nat.mod_eq_of_lt (by omega : D < 2 ^ 5), Nat.mod_eq_of_lt (by omega : si < 2 ^ 3)]
  congr 1
  omega

/-! ### The command (R240) -/

theorem exec_resolve (sel : BitVec 2) (mod kx ky km : Byte) (now : Time) (s : State) :
    exec (.resolve sel mod kx ky km now) s = .next { s with
      pnsc := (resolve s.cfg sel mod kx ky now s.pnsc).2.setResult
        (selectionWord (resolve s.cfg sel mod kx ky now s.pnsc).1 (lengthOf (lengthIndex kx))
          (divisorOf (divisorIndex s.cfg ky mod)) (scaleIndex s.cfg sel) km) } := rfl

/-- Settles O34: the values the statement names are the resolved selections, each of which fits its field of the
report. -/
theorem resolveSelectsFromTheTables : Obligations.ResolveSelectsFromTheTables := by
  intro s sel mod kx ky km now L cmb D entry si lenchg
  have hL : lengthOf (lengthIndex kx) = L := by rw [lengthIndex_eq_div]; rfl
  have hD : divisorOf (divisorIndex s.cfg ky mod) = D := by rw [divisorIndex_eq_div]; rfl
  have hsi : scaleIndex s.cfg sel = si := scaleIndex_of_entry (scaleEntry_getD s.cfg sel)
  have hchg : (resolve s.cfg sel mod kx ky now s.pnsc).1 = lenchg := by rw [resolve_changed_eq, hL]
  have hword := selectionWord_eq (lengthOf_range (lengthIndex_le kx)).2
    (divisorOf_range (divisorIndex_le s.cfg ky mod)).2 (scaleIndex_le s.cfg sel) lenchg km
  rw [exec_resolve, resolve_pnsc, hchg, hword, storedLengthIndex_lengthIndex, hL, hD, hsi, lengthIndex_eq_div,
    openWindow_if]
  rfl

end Sys2Proof.Machine
end

section
/-! PROOFS. `NOP`, the reserved opcodes and `DISPLAY` (47_tick.md): commands that do nothing (R280), what `DISPLAY`
shows (R271 to R275), and a window that stays closed (R273). -/

namespace Sys2Proof.Machine

/-! ### `NOP` and the reserved opcodes (R280) -/

/-- The opcodes 0 and 11 to 15 select a command that does nothing. -/
theorem exec_commandOf_idle {f : CmdFields} (h : f.op.toNat = 0 ∨ 11 ≤ f.op.toNat) (s : State) :
    exec (commandOf f) s = .next s := by
  have hop := f.op.isLt
  unfold commandOf
  split
  case h_1 | h_12 | h_13 | h_14 | h_15 | h_16 => rfl
  all_goals omega

/-- Settles O41: the low four bits of a word are its opcode. -/
theorem nopAndReservedDoNothing : Obligations.NopAndReservedDoNothing := fun s =>
  ⟨rfl, rfl, rfl, rfl, rfl, rfl, fun w hw => exec_commandOf_idle (f := fieldsOf w) hw s⟩

/-! ### `DISPLAY` (R270, R271) -/

/-- The report of `DISPLAY`: the window and no payload. -/
def displayWord (win : Bool) : BitVec 32 := resultWord { dispwin := win } 0

theorem displayWord_eq (win : Bool) : displayWord win = BitVec.ofNat 32 (128 * bitNat win) := by
  cases win <;> rfl

/-- Bit 7 of `RESULT` is the window flag. -/
theorem displayWord_dispwin (win : Bool) : (displayWord win).getLsbD 7 = win := by
  cases win <;> rfl

theorem exec_display (now : Time) (s : State) :
    exec (.display now) s = .next { s with
      pnsc := (display s.cfg now s.pnsc).2.setResult (displayWord (windowOpen s.pnsc now)) } := rfl

/-- The window on numbers (R272). -/
theorem windowOpen_eq_elapsed (p : Pnsc) (now : Time) :
    windowOpen p now = (p.disp && decide (elapsed now p.lenTime < 1500)) := by
  rw [elapsed_eq_tdiff]
  rfl

/-! ### The LEDs (R274, R275) -/

/-- What the display operation shows. -/
def displayLeds (c : Config) (now : Time) (p : Pnsc) : Leds := (display c now p).2.led

theorem displayLeds_of_open {c : Config} {now : Time} {p : Pnsc} (h : windowOpen p now = true) :
    displayLeds c now p = patternLeds c p.lenIdx := by
  rw [displayLeds, display_pnsc, h]
  rfl

theorem displayLeds_of_closed {c : Config} {now : Time} {p : Pnsc} (h : windowOpen p now = false) :
    displayLeds c now p = steadyLeds c { p with disp := false } now := by
  rw [displayLeds, display_pnsc, h]
  rfl

theorem steadyLeds_of_reference {c : Config} (h : c.steady = .reference) (p : Pnsc) (now : Time) :
    steadyLeds c p now = steadyReference c p now := by
  rw [steadyLeds, h]

theorem steadyLeds_of_other {c : Config} {id : Nat} (h : c.steady = .other id) (p : Pnsc) (now : Time) :
    steadyLeds c p now = Config.steadyOther id p now := by
  rw [steadyLeds, h]

/-- The reference display shows the level of each pulse divided by 256. -/
theorem steadyReference_eq_div (c : Config) (p : Pnsc) (now : Time) :
    steadyReference c p now =
      { led0 := BitVec.ofNat 8 (penv c p .ch1 now / 256)
        led1 := bitCode (p.ch1.R.getLsbD 0), led2 := bitCode (p.ch1.R.getLsbD 1)
        led3 := BitVec.ofNat 8 (penv c p .ch2 now / 256)
        led4 := bitCode (p.ch2.R.getLsbD 0), led5 := bitCode (p.ch2.R.getLsbD 1) } := by
  rw [steadyReference, Nat.shiftRight_eq_div_pow, Nat.shiftRight_eq_div_pow]

/-- Settles O40: the LEDs are those of the display operation, by the window and the configuration's display. -/
theorem displayShowsPatternOrSteady : Obligations.DisplayShowsPatternOrSteady := by
  intro s now win pat lit
  have hwin : windowOpen s.pnsc now = win := windowOpen_eq_elapsed s.pnsc now
  refine ⟨displayLeds s.cfg now s.pnsc, ?_, fun hopen => ?_, fun hclosed href => ?_, fun hclosed id hother => ?_⟩
  · rw [exec_display, displayLeds, display_pnsc, hwin, displayWord_eq]
    rfl
  · exact displayLeds_of_open (hwin.trans hopen)
  · rw [displayLeds_of_closed (hwin.trans hclosed), steadyLeds_of_reference href, steadyReference_eq_div]
    rfl
  · rw [displayLeds_of_closed (hwin.trans hclosed), steadyLeds_of_other hother]

/-! ### An expired window (R273, R35) -/

theorem windowOpen_of_disp_clear {p : Pnsc} (h : p.disp = false) (now : Time) : windowOpen p now = false := by
  rw [windowOpen, h, Bool.false_and]

/-- With `disp` clear a `DISPLAY` reports no window at any time. -/
theorem exec_display_of_disp_clear {s : State} (h : s.pnsc.disp = false) (now : Time) :
    ∃ t : State, exec (.display now) s = .next t ∧ t.pnsc.result.getLsbD 7 = false :=
  ⟨_, exec_display now s, (displayWord_dispwin _).trans (windowOpen_of_disp_clear h now)⟩

/-- A `DISPLAY` that reports no window leaves `disp` clear. -/
theorem disp_clear_of_display {s t : State} {now : Time} (h : exec (.display now) s = .next t)
    (hno : t.pnsc.result.getLsbD 7 = false) : t.pnsc.disp = false := by
  rw [exec_display] at h
  obtain rfl := Host.Outcome.next.inj h
  exact (displayWord_dispwin (windowOpen s.pnsc now)).symm.trans hno

/-- Only a resolve sets `disp`, so any other instruction keeps it clear. -/
theorem exec_keeps_disp_clear {i : Instr} {s t : State} (h : exec i s = .next t) (hi : runsResolve i = false)
    (hs : s.pnsc.disp = false) : t.pnsc.disp = false := by
  obtain ⟨hresolve, -⟩ := selectionDividerAndDisplayHaveTheirWriters i s t h
  obtain ⟨-, -, -, -, -, hset⟩ := hresolve hi
  exact Bool.eq_false_iff.mpr fun ht => Bool.eq_false_iff.mp hs (hset ht)

/-- Settles O57: `disp` is clear from the expired display on, along the run, and no display opens the window. -/
theorem anExpiredWindowStaysClosed : Obligations.AnExpiredWindowStaysClosed := by
  intro s t now is h hno hrun
  have hdisp : t.pnsc.disp = false := disp_clear_of_display h hno
  have hclear : ∀ u ∈ runInstrs is t, u.pnsc.disp = false := by
    refine forall_mem_runInstrs (I := fun u => u.pnsc.disp = false) (fun i hi u v hu hv => ?_) hdisp
    have hkept : v.pnsc.disp = false := exec_keeps_disp_clear hv (hrun i hi) hu
    exact ⟨hkept, hkept⟩
  refine ⟨length_runInstrs is t, fun u hu => ?_⟩
  have hoff : u.pnsc.disp = false := by
    rcases List.mem_cons.mp hu with rfl | hmem
    · exact hdisp
    · exact hclear u hmem
  exact ⟨hoff, exec_display_of_disp_clear hoff⟩

end Sys2Proof.Machine
end

section
/-! PROOFS. `TICK` (47_tick.md): what its phases write (R260 to R263), the one source of its trigger (R264), what a tick
without a trigger keeps (R267), the draws it does not use (R265), and the locked loop of full length (R268). -/

namespace Sys2Proof.Machine

/-! ### What the phases leave unchanged (R260) -/

/-- Phase (a) writes the selections and the window's two registers only. -/
theorem resolve_frame (c : Config) (sel : BitVec 2) (mod kx ky : Byte) (now : Time) (p : Pnsc) :
    ∃ l li d si lt w, (resolve c sel mod kx ky now p).2 =
      { p with len := l, lenIdx := li, div := d, scaleIdx := si, lenTime := lt, disp := w } :=
  ⟨_, _, _, _, _, _, by rw [resolve_pnsc, openWindow_if]; rfl⟩

/-- Phase (c) writes the channels and the count of the divider only. -/
theorem advancePhase_frame (c : Config) (trig : Bool) (prob : Byte) (r1 r2 : Draw) (now : Time) (p : Pnsc) :
    ∃ x y n, (advancePhase c trig prob r1 r2 now p).2 = { p with ch1 := x, ch2 := y, divCnt := n } := by
  cases trig with
  | false => exact ⟨p.ch1, p.ch2, p.divCnt, rfl⟩
  | true =>
    rw [advancePhase_trig, divtick_eq]
    split
    · rw [advance_pnsc, advance_pnsc]
      exact ⟨_, _, _, rfl⟩
    · rw [advance_pnsc]
      exact ⟨_, p.ch2, _, rfl⟩

/-- The estimator reads the tap-tempo registers only. -/
theorem tap_report_congr {p q : Pnsc} (hprev : q.prevSel = p.prevSel) (htap : q.lastTap = p.lastTap)
    (htrig : q.lastTrig = p.lastTrig) (hint : q.interval = p.interval) (c : Config) (sel : BitVec 2) (now : Time) :
    (tap c sel now q).1 = (tap c sel now p).1 := by
  simp only [tap, hprev, htap, htrig, hint]

/-! ### The channels in phase (c) (R263) -/

theorem advance_R (c : Config) (ch : Channel) (prob : Byte) (r : Draw) (now : Time) (p : Pnsc) :
    ((advance c ch prob r now p).chan ch).R = (shiftStep (p.chan ch).R p.len.toNat prob r).R := by
  rw [advance_pnsc, Pnsc.chan_setChan_same]
  rfl

section AdvancePhase

variable {c : Config} {trig : Bool} {prob : Byte} {r1 r2 : Draw} {now : Time} {p : Pnsc}

/-- Channel 2 advances on a trigger only. -/
theorem trig_of_advancePhase (h : (advancePhase c trig prob r1 r2 now p).1 = true) : trig = true := by
  cases trig with
  | false => exact h
  | true => rfl

/-- On a trigger channel 1 ends as its advance leaves it. -/
theorem advancePhase_ch1 :
    (advancePhase c true prob r1 r2 now p).2.chan .ch1 = (advance c .ch1 prob r1 now p).chan .ch1 := by
  rw [advancePhase_trig]
  split
  · rw [advance_chan_other c (by decide), divtick_chan]
  · rw [divtick_chan]

/-- When the divider signals, channel 2 ends as its advance leaves it. -/
theorem advancePhase_ch2 (h : (advancePhase c trig prob r1 r2 now p).1 = true) :
    (advancePhase c trig prob r1 r2 now p).2.chan .ch2 = (advance c .ch2 prob r2 now p).chan .ch2 := by
  obtain rfl := trig_of_advancePhase h
  rw [advancePhase_trig] at h ⊢
  rw [if_pos h, divtick_eq, advance_pnsc, advance_pnsc, advance_pnsc]
  rfl

/-- When the divider does not signal, channel 2 is left alone. -/
theorem advancePhase_ch2_kept (h : (advancePhase c trig prob r1 r2 now p).1 = false) :
    (advancePhase c trig prob r1 r2 now p).2.chan .ch2 = p.chan .ch2 := by
  cases trig with
  | false => rfl
  | true =>
    rw [advancePhase_trig] at h ⊢
    rw [if_neg (Bool.eq_false_iff.mp h), divtick_chan, advance_chan_other c (by decide)]

/-- The second draw is used by the advance of channel 2 only (R265). -/
theorem advancePhase_second_draw (h : (advancePhase c trig prob r1 r2 now p).1 = false) (q2 : Draw) :
    advancePhase c trig prob r1 q2 now p = advancePhase c trig prob r1 r2 now p := by
  cases trig with
  | false => rw [advancePhase_idle, advancePhase_idle]
  | true =>
    have hno : (divtick (advance c .ch1 prob r1 now p)).1 = false := h
    rw [advancePhase_trig, advancePhase_trig, hno, if_neg Bool.false_ne_true, if_neg Bool.false_ne_true]

end AdvancePhase

/-! ### The phases of a tick (R260, R262) -/

section Tick

variable (sel : BitVec 2) (clk mod kx ky km : Byte) (now : Time) (r1 r2 : Draw) (s : State)

/-- Phases (a) and (b) on a plugged sample: clock recovery may fire, and the estimator does not run. -/
theorem tickTrigger_plugged (h : plugged s.cfg clk = true) :
    tickTrigger sel clk mod kx ky now s =
      ({ trig := (clockStep s.cfg s.pnsc.clkState clk).2, plug := true, edge := false, acc := false },
        ((resolve s.cfg sel mod kx ky now s.pnsc).2.setClock (clockStep s.cfg s.pnsc.clkState clk).1 clk).setPrevSel
          sel) := by
  have hclk : (resolve s.cfg sel mod kx ky now s.pnsc).2.clkState = s.pnsc.clkState := by
    obtain ⟨l, li, d, si, lt, w, e⟩ := resolve_frame s.cfg sel mod kx ky now s.pnsc
    rw [e]
  rcases triggerPhase_cases s.cfg (resolve s.cfg sel mod kx ky now s.pnsc).2 sel clk now with ⟨-, e⟩ | ⟨hno, -⟩
  · rw [tickTrigger, e, hclk]
  · exact absurd (h.symm.trans hno) (by decide)

/-- Phases (a) and (b) on an unplugged sample: only the estimator may fire, and it reads the tap-tempo registers as they
were before the tick. -/
theorem tickTrigger_unplugged (h : plugged s.cfg clk = false) :
    tickTrigger sel clk mod kx ky now s =
      ({ trig := (tap s.cfg sel now s.pnsc).1.trig, plug := false, edge := (tap s.cfg sel now s.pnsc).1.edge,
         acc := (tap s.cfg sel now s.pnsc).1.acc },
        (tap s.cfg sel now ((resolve s.cfg sel mod kx ky now s.pnsc).2.setClock .unplugged clk)).2.setPrevSel sel) := by
  have htap : (tap s.cfg sel now ((resolve s.cfg sel mod kx ky now s.pnsc).2.setClock .unplugged clk)).1 =
      (tap s.cfg sel now s.pnsc).1 := by
    obtain ⟨l, li, d, si, lt, w, e⟩ := resolve_frame s.cfg sel mod kx ky now s.pnsc
    rw [e]
    exact tap_report_congr rfl rfl rfl rfl ..
  rcases triggerPhase_cases s.cfg (resolve s.cfg sel mod kx ky now s.pnsc).2 sel clk now with ⟨hyes, -⟩ | ⟨-, e⟩
  · exact absurd (h.symm.trans hyes) (by decide)
  · rw [tickTrigger, e, htap]

@[simp] theorem tickTrigger_plug : (tickTrigger sel clk mod kx ky now s).1.plug = plugged s.cfg clk := by
  cases h : plugged s.cfg clk with
  | true => rw [tickTrigger_plugged sel clk mod kx ky now s h]
  | false => rw [tickTrigger_unplugged sel clk mod kx ky now s h]

/-- Phase (b) writes the clock and the tap-tempo registers only. -/
theorem tickTrigger_frame :
    ∃ st iv lt lg, (tickTrigger sel clk mod kx ky now s).2 =
      (((resolve s.cfg sel mod kx ky now s.pnsc).2.setClock st clk).setTap iv lt lg).setPrevSel sel := by
  cases h : plugged s.cfg clk with
  | true =>
    rw [tickTrigger_plugged sel clk mod kx ky now s h]
    exact ⟨_, _, _, _, rfl⟩
  | false =>
    rw [tickTrigger_unplugged sel clk mod kx ky now s h]
    exact ⟨_, _, _, _, rfl⟩

/-- Every tick records the selector (R262). -/
@[simp] theorem tickTrigger_prevSel : (tickTrigger sel clk mod kx ky now s).2.prevSel = sel := by
  obtain ⟨st, iv, lt, lg, e⟩ := tickTrigger_frame sel clk mod kx ky now s
  rw [e]
  rfl

/-- Every tick records the sample (R262). -/
@[simp] theorem tickTrigger_clkLast : (tickTrigger sel clk mod kx ky now s).2.clkLast = clk := by
  obtain ⟨st, iv, lt, lg, e⟩ := tickTrigger_frame sel clk mod kx ky now s
  rw [e]
  rfl

/-- On a plugged sample the estimator does not run, and its registers stay (R262). -/
theorem tickTrigger_keeps_tap (h : plugged s.cfg clk = true) :
    (tickTrigger sel clk mod kx ky now s).2.lastTap = s.pnsc.lastTap ∧
    (tickTrigger sel clk mod kx ky now s).2.lastTrig = s.pnsc.lastTrig ∧
    (tickTrigger sel clk mod kx ky now s).2.interval = s.pnsc.interval := by
  obtain ⟨l, li, d, si, lt, w, e⟩ := resolve_frame s.cfg sel mod kx ky now s.pnsc
  rw [tickTrigger_plugged sel clk mod kx ky now s h, e]
  exact ⟨rfl, rfl, rfl⟩

@[simp] theorem tickTrigger_divCnt : (tickTrigger sel clk mod kx ky now s).2.divCnt = s.pnsc.divCnt := by
  obtain ⟨st, iv, lt, lg, e⟩ := tickTrigger_frame sel clk mod kx ky now s
  obtain ⟨l, li, d, si, lt', w, e'⟩ := resolve_frame s.cfg sel mod kx ky now s.pnsc
  rw [e, e']
  rfl

/-- The length of an advance is the one that phase (a) resolved (R261). -/
@[simp] theorem tickTrigger_len :
    (tickTrigger sel clk mod kx ky now s).2.len = BitVec.ofNat 5 (lengthOf (lengthIndex kx)) := by
  obtain ⟨st, iv, lt, lg, e⟩ := tickTrigger_frame sel clk mod kx ky now s
  rw [e, resolve_pnsc]
  rfl

theorem tickTrigger_len_range :
    1 ≤ (tickTrigger sel clk mod kx ky now s).2.len.toNat ∧ (tickTrigger sel clk mod kx ky now s).2.len.toNat ≤ 16 := by
  have hrange := lengthOf_range (lengthIndex_le kx)
  rw [tickTrigger_len, BitVec.toNat_ofNat]
  omega

/-- The phases (c) and (d) write the channels, the count of the divider, the display and `RESULT` only. -/
theorem tickNext_frame :
    ∃ x y n w led r, (tickNext sel clk mod kx ky km now r1 r2 s).pnsc =
      { (tickTrigger sel clk mod kx ky now s).2 with
        ch1 := x, ch2 := y, divCnt := n, disp := w, led := led, result := r } := by
  obtain ⟨x, y, n, e⟩ := advancePhase_frame s.cfg (tickTrigger sel clk mod kx ky now s).1.trig (probabilityOf km) r1 r2
    now (tickTrigger sel clk mod kx ky now s).2
  rw [tickNext, tickAdvance, e, display_pnsc]
  exact ⟨_, _, _, _, _, _, rfl⟩

/-! ### The report of a tick (R266) -/

/-- The report, from the phases (a) to (c) and the window of phase (d). -/
theorem tickNext_result :
    (tickNext sel clk mod kx ky km now r1 r2 s).pnsc.result =
      let b := (tickTrigger sel clk mod kx ky now s).1
      let d := tickAdvance sel clk mod kx ky km now r1 r2 s
      resultWord
        { trig := b.trig, plugged := b.plug, adv1 := b.trig, adv2 := d.1, tapedge := b.edge, tapacc := b.acc,
          lenchg := (resolve s.cfg sel mod kx ky now s.pnsc).1, dispwin := windowOpen d.2 now }
        (selectionPayload d.2.len d.2.div d.2.scaleIdx (probabilityOf km)) := rfl

/-- Bit 1 of `RESULT` is the plugged flag. -/
theorem resultWord_getLsbD_plugged (f : ResultFlags) (payload : BitVec 24) :
    (resultWord f payload).getLsbD 1 = f.plugged := by
  simp only [resultWord, flagByte, BitVec.getLsbD_append]
  simp

/-- Bit 4 of `RESULT` is the tap-edge flag. -/
theorem resultWord_getLsbD_tapedge (f : ResultFlags) (payload : BitVec 24) :
    (resultWord f payload).getLsbD 4 = f.tapedge := by
  simp only [resultWord, flagByte, BitVec.getLsbD_append]
  simp

/-- Bit 5 of `RESULT` is the acceptance flag. -/
theorem resultWord_getLsbD_tapacc (f : ResultFlags) (payload : BitVec 24) :
    (resultWord f payload).getLsbD 5 = f.tapacc := by
  simp only [resultWord, flagByte, BitVec.getLsbD_append]
  simp

theorem tickNext_trig :
    (tickNext sel clk mod kx ky km now r1 r2 s).pnsc.result.getLsbD 0 =
      (tickTrigger sel clk mod kx ky now s).1.trig :=
  resultWord_getLsbD_zero ..

theorem tickNext_plugged :
    (tickNext sel clk mod kx ky km now r1 r2 s).pnsc.result.getLsbD 1 =
      (tickTrigger sel clk mod kx ky now s).1.plug :=
  resultWord_getLsbD_plugged ..

theorem tickNext_tapedge :
    (tickNext sel clk mod kx ky km now r1 r2 s).pnsc.result.getLsbD 4 =
      (tickTrigger sel clk mod kx ky now s).1.edge :=
  resultWord_getLsbD_tapedge ..

theorem tickNext_tapacc :
    (tickNext sel clk mod kx ky km now r1 r2 s).pnsc.result.getLsbD 5 =
      (tickTrigger sel clk mod kx ky now s).1.acc :=
  resultWord_getLsbD_tapacc ..

/-! ### Triggers and draws in a tick (R264, R265, R267) -/

/-- Without a trigger phase (c) does nothing. -/
theorem tickAdvance_idle (h : (tickTrigger sel clk mod kx ky now s).1.trig = false) :
    tickAdvance sel clk mod kx ky km now r1 r2 s = (false, (tickTrigger sel clk mod kx ky now s).2) := by
  rw [tickAdvance, h, advancePhase_idle]

/-- A tick uses its draws in phase (c) only. -/
theorem tickNext_draws_congr {q1 q2 : Draw}
    (h : tickAdvance sel clk mod kx ky km now q1 q2 s = tickAdvance sel clk mod kx ky km now r1 r2 s) :
    tickNext sel clk mod kx ky km now q1 q2 s = tickNext sel clk mod kx ky km now r1 r2 s := by
  have hresult : (tickNext sel clk mod kx ky km now q1 q2 s).pnsc.result =
      (tickNext sel clk mod kx ky km now r1 r2 s).pnsc.result := by
    rw [tickNext_result, tickNext_result, h]
  simp only [tickNext, Pnsc.setResult_result] at hresult ⊢
  rw [h, hresult]

end Tick

/-- Settles O36: phases (c) and (d) write none of these registers, and phase (b) goes by the sample. -/
theorem pluggedTickLeavesTapTempo : Obligations.PluggedTickLeavesTapTempo := by
  intro s sel clk mod kx ky km now r1 r2
  refine ⟨_, exec_tick sel clk mod kx ky km now r1 r2 s, ?_⟩
  rw [tickNext_plugged, tickNext_tapedge, tickNext_tapacc]
  obtain ⟨x, y, n, w, led, r, e⟩ := tickNext_frame sel clk mod kx ky km now r1 r2 s
  rw [e]
  refine ⟨tickTrigger_prevSel .., tickTrigger_clkLast .., tickTrigger_plug .., fun hp => ?_, fun hp => ?_⟩
  · obtain ⟨htap, htrig, hint⟩ := tickTrigger_keeps_tap sel clk mod kx ky now s hp
    refine ⟨htap, htrig, hint, ?_⟩
    rw [tickTrigger_plugged sel clk mod kx ky now s hp]
    exact ⟨rfl, rfl⟩
  · rw [tickTrigger_unplugged sel clk mod kx ky now s hp]
    rfl

/-- Settles O37: the sample decides which component reports the trigger, and phase (c) needs one. -/
theorem oneTriggerSourcePerTick : Obligations.OneTriggerSourcePerTick := by
  intro s sel clk mod kx ky km now r1 r2
  refine ⟨fun hfires => (clockStep_fires s.cfg hfires).left, _, exec_tick sel clk mod kx ky km now r1 r2 s, ?_⟩
  rw [tickNext_trig, tickNext_adv1, tickNext_adv2]
  refine ⟨?_, rfl, trig_of_advancePhase⟩
  split
  next hp => rw [tickTrigger_plugged sel clk mod kx ky now s hp]
  next hp => rw [tickTrigger_unplugged sel clk mod kx ky now s (Bool.eq_false_iff.mpr hp)]

/-- Settles O38: phases (a), (b) and (d) keep the channels and the count, and phase (c) is idle without a trigger. -/
theorem tickWithoutTriggerKeepsTheChannels : Obligations.TickWithoutTriggerKeepsTheChannels := by
  intro s t sel clk mod kx ky km now r1 r2 h
  rw [exec_tick] at h
  obtain rfl := Host.Outcome.next.inj h
  rw [tickNext_trig, tickNext_adv1, tickNext_adv2, ← Pnsc.chan_ch1, ← Pnsc.chan_ch1, ← Pnsc.chan_ch2, ← Pnsc.chan_ch2,
    tickNext_chan, tickNext_chan]
  refine ⟨fun hno => ?_, fun hno => ?_⟩
  · have hidle := tickAdvance_idle sel clk mod kx ky km now r1 r2 s hno
    have hcnt : (tickNext sel clk mod kx ky km now r1 r2 s).pnsc.divCnt = s.pnsc.divCnt := by
      rw [tickNext, hidle, display_pnsc]
      exact tickTrigger_divCnt ..
    rw [hidle, tickTrigger_chan, tickTrigger_chan]
    exact ⟨rfl, rfl, hcnt, hno, rfl⟩
  · exact (advancePhase_ch2_kept hno).trans (tickTrigger_chan ..)

/-- Settles O39: a draw is read by the advance of its channel only. -/
theorem unusedDrawsDoNotMatter : Obligations.UnusedDrawsDoNotMatter := by
  intro s t sel clk mod kx ky km now r1 r2 q1 q2 h
  rw [exec_tick] at h
  obtain rfl := Host.Outcome.next.inj h
  rw [tickNext_trig, tickNext_adv2]
  refine ⟨fun hno => ?_, fun hno => ?_⟩
  · rw [exec_tick, tickNext_draws_congr]
    rw [tickAdvance_idle _ _ _ _ _ _ _ _ _ _ hno, tickAdvance_idle _ _ _ _ _ _ _ _ _ _ hno]
  · rw [exec_tick, tickNext_draws_congr]
    exact advancePhase_second_draw hno q2

/-! ### The locked loop of full length (R268) -/

/-- With the fed-back bit at the top and no flip, a step rotates the register. -/
theorem shiftStep_full_locked (R : BitVec 16) (r : Draw) : (shiftStep R 16 255 r).R = R.rotateLeft 1 := by
  refine BitVec.eq_of_getLsbD_eq fun i hi => ?_
  rw [shiftStep_bit _ _ _ _ _ hi, shiftStep_nb, flips_max, BitVec.getLsbD_rotateLeft]
  cases i with
  | zero => simp
  | succ i => simp [hi]

/-- The top bin of knob x resolves to the full length (R241, R242). -/
theorem lengthOf_top_bin {kx : Byte} (h : 224 ≤ kx.toNat) : lengthOf (lengthIndex kx) = 16 := by
  have hidx : lengthIndex kx = 7 := by
    have := kx.isLt
    rw [lengthIndex_eq_div]
    omega
  rw [hidx]
  rfl

/-- Settles O23: an advance steps with the length resolved in the same tick, and such a step rotates. -/
theorem lockedFullLengthTickRotates : Obligations.LockedFullLengthTickRotates := by
  intro s t sel clk mod kx ky now r1 r2 hkx h
  rw [exec_tick] at h
  obtain rfl := Host.Outcome.next.inj h
  have hlen : (tickTrigger sel clk mod kx ky now s).2.len.toNat = 16 := by
    rw [tickTrigger_len, lengthOf_top_bin hkx]
    rfl
  rw [tickNext_trig, tickNext_adv2, ← Pnsc.chan_ch1, ← Pnsc.chan_ch1, ← Pnsc.chan_ch2, ← Pnsc.chan_ch2,
    tickNext_chan, tickNext_chan]
  refine ⟨fun htrig => ?_, fun hadv => ?_⟩
  · rw [tickAdvance, htrig, advancePhase_ch1, advance_R, tickTrigger_chan, hlen]
    exact shiftStep_full_locked ..
  · rw [tickAdvance, advancePhase_ch2 hadv, advance_R, tickTrigger_chan, hlen]
    exact shiftStep_full_locked ..

end Sys2Proof.Machine
end

section
/-! PROOFS. A `TICK` as its unit commands one after the other (47_tick.md R260 to R263): what each unit command does to
the registers, each phase of the composed tick against the phase of the operation, and the two reports. -/

namespace Sys2Proof.Machine

/-! ### The registers after a unit command -/

section Unit

variable (c : Config) (p : Pnsc)

theorem pnscAfter_of_exec {i : Instr} {t : State} (h : exec i ⟨p, c, [], 0⟩ = .next t) : pnscAfter i c p = t.pnsc := by
  rw [pnscAfter, h]

theorem pnscAfter_resolve (sel : BitVec 2) (mod kx ky km : Byte) (now : Time) :
    pnscAfter (.resolve sel mod kx ky km now) c p =
      (resolve c sel mod kx ky now p).2.setResult
        (selectionWord (resolve c sel mod kx ky now p).1 (lengthOf (lengthIndex kx))
          (divisorOf (divisorIndex c ky mod)) (scaleIndex c sel) km) :=
  pnscAfter_of_exec c p (exec_resolve ..)

theorem pnscAfter_clkrec (clk : Byte) :
    pnscAfter (.clkrec clk) c p =
      (p.setClock (clockStep c p.clkState clk).1 clk).setResult (clockReport c p.clkState clk) :=
  pnscAfter_of_exec c p (exec_clkrec ..)

theorem pnscAfter_taptmp (sel : BitVec 2) (now : Time) :
    pnscAfter (.taptmp sel now) c p = ((tap c sel now p).2.setPrevSel sel).setResult (tapWord c sel now p) :=
  pnscAfter_of_exec c p (exec_taptmp ..)

theorem pnscAfter_divtick (w : BitVec 32) :
    pnscAfter .divtick c (p.setResult w) = (divtick p).2.setResult (divtickWord p) := by
  rw [divtick_eq]
  exact pnscAfter_of_exec c (p.setResult w) (exec_divtick _)

theorem pnscAfter_emit (ch : Channel) (now : Time) (w : BitVec 32) :
    pnscAfter (.emit ch now) c (p.setResult w) =
      (emit c ch now p).2.setResult (noteWord (quant c (lowByte (p.chan ch).R) p.scaleIdx.toNat)) := by
  rw [pnscAfter_of_exec c _ (exec_emit ..), emit_pnsc, Pnsc.chan_setResult, Pnsc.setResult_scaleIdx]
  cases ch <;> rfl

theorem pnscAfter_display (now : Time) :
    pnscAfter (.display now) c p = (display c now p).2.setResult (displayWord (windowOpen p now)) :=
  pnscAfter_of_exec c p (exec_display ..)

@[simp] theorem windowOpen_setResult (w : BitVec 32) (now : Time) :
    windowOpen (p.setResult w) now = windowOpen p now := rfl

/-- The length operand that `SRSTEP` needs for the stored length. -/
theorem stepLength_pred {len : BitVec 5} (hpos : 1 ≤ len.toNat) (hmax : len.toNat ≤ 16) :
    stepLength (BitVec.ofNat 4 (len.toNat - 1)) = len.toNat := by
  rw [stepLength, BitVec.toNat_ofNat]
  omega

/-- `SRSTEP` and then `EMIT` advance the channel (R263); only `RESULT` differs. -/
theorem composedAdvance_eq {p : Pnsc} (ch : Channel) (km : Byte) (r : Draw) (now : Time) (v : BitVec 32)
    (hpos : 1 ≤ p.len.toNat) (hmax : p.len.toNat ≤ 16) :
    ∃ w, composedAdvance c ch km r now (p.setResult v) = (advance c ch (probabilityOf km) r now p).setResult w := by
  have hstep : pnscAfter (.srstep ch km (BitVec.ofNat 4 (p.len.toNat - 1)) r) c (p.setResult v) =
      (p.setR ch (shiftStep (p.chan ch).R p.len.toNat (probabilityOf km) r).R).setResult
        (stepWord (shiftStep (p.chan ch).R p.len.toNat (probabilityOf km) r)) := by
    rw [pnscAfter_of_exec c _ (exec_srstep ..), srstepNext, srstepReport, stepLength_pred hpos hmax, probabilityOf]
    cases ch <;> rfl
  rw [composedAdvance, Pnsc.setResult_len, hstep, pnscAfter_emit]
  exact ⟨_, rfl⟩

end Unit

/-! ### The phases of the composed tick -/

/-- Phase (b) of the composed tick: its flags, and the registers after it. -/
def composedTrigger (c : Config) (sel : BitVec 2) (clk : Byte) (now : Time) (p : Pnsc) : TriggerReport × Pnsc :=
  let pb := pnscAfter (.clkrec clk) c p
  let plugged := pb.result.getLsbD 1
  let pt := if plugged then pb.setPrevSel sel else pnscAfter (.taptmp sel now) c pb
  ({ trig := pb.result.getLsbD 0 || (!plugged && pt.result.getLsbD 0), plug := plugged,
     edge := !plugged && pt.result.getLsbD 4, acc := !plugged && pt.result.getLsbD 5 }, pt)

/-- Phase (c) of the composed tick: its second flag, and the registers after it. -/
def composedAdvances (c : Config) (trig : Bool) (km : Byte) (r1 r2 : Draw) (now : Time) (p : Pnsc) : Bool × Pnsc :=
  let p1 := if trig then pnscAfter .divtick c (composedAdvance c .ch1 km r1 now p) else p
  let adv2 := trig && p1.result.getLsbD 3
  (adv2, if adv2 then composedAdvance c .ch2 km r2 now p1 else p1)

/-- The composed tick is its phases in order. -/
theorem composedTick_eq (c : Config) (sel : BitVec 2) (clk mod kx ky km : Byte) (now : Time) (r1 r2 : Draw) (p : Pnsc) :
    composedTick c sel clk mod kx ky km now r1 r2 p =
      let a := pnscAfter (.resolve sel mod kx ky km now) c p
      let b := composedTrigger c sel clk now a
      let d := composedAdvances c b.1.trig km r1 r2 now b.2
      let e := pnscAfter (.display now) c d.2
      { pnsc := e, advanced := d.2, trig := b.1.trig, plugged := b.1.plug, adv2 := d.1, tapedge := b.1.edge,
        tapacc := b.1.acc, lenchg := a.result.getLsbD 6, dispwin := e.result.getLsbD 7 } := rfl

theorem clockReport_trig (c : Config) (st : ClkState) (v : Byte) :
    (clockReport c st v).getLsbD 0 = (clockStep c st v).2 :=
  resultWord_getLsbD_zero ..

theorem clockReport_plugged (c : Config) (st : ClkState) (v : Byte) :
    (clockReport c st v).getLsbD 1 = plugged c v :=
  resultWord_getLsbD_plugged ..

/-- Bit 6 of `RESULT` is the length-change flag. -/
theorem selectionWord_lenchg (lenchg : Bool) (L D si : Nat) (km : Byte) :
    (selectionWord lenchg L D si km).getLsbD 6 = lenchg := by
  simp only [selectionWord, resultWord, flagByte, BitVec.getLsbD_append]
  simp

/-- Bit 3 of `RESULT` is the signal to channel 2. -/
theorem divtickWord_adv2 (p : Pnsc) : (divtickWord p).getLsbD 3 = (divtick p).1 := by
  rw [divtick_eq]
  exact resultWord_getLsbD_adv2 ..

/-- `CLKREC`, and then `TAPTMP` or the write of `prev_sel`, are phase (b) (R262); only `RESULT` differs. -/
theorem composedTrigger_eq (c : Config) (sel : BitVec 2) (clk : Byte) (now : Time) (p : Pnsc) (v : BitVec 32) :
    ∃ w, composedTrigger c sel clk now (p.setResult v) =
      ((triggerPhase c sel clk now p).1, (triggerPhase c sel clk now p).2.setResult w) := by
  rcases triggerPhase_cases c p sel clk now with ⟨hp, e⟩ | ⟨hp, e⟩
  · refine ⟨clockReport c p.clkState clk, ?_⟩
    simp only [e, composedTrigger, pnscAfter_clkrec, Pnsc.setResult_result, Pnsc.setResult_clkState,
      clockReport_trig, clockReport_plugged, hp, if_true, Bool.not_true, Bool.false_and, Bool.or_false]
    rfl
  · refine ⟨tapWord c sel now (p.setClock .unplugged clk), ?_⟩
    simp only [e, composedTrigger, pnscAfter_clkrec, pnscAfter_taptmp, Pnsc.setResult_result,
      Pnsc.setResult_clkState, clockReport_trig, clockReport_plugged, hp, clockStep_unplugged c hp,
      Bool.false_eq_true, if_false, Bool.not_false, Bool.true_and, Bool.false_or, tapWord_trig, tapWord_edge,
      tapWord_acc]
    rfl

/-- `SRSTEP`, `EMIT` and `DIVTICK`, and the first two on channel 2 when the divider signals, are phase (c) (R263); only
`RESULT` differs. -/
theorem composedAdvances_eq (c : Config) (trig : Bool) (km : Byte) (r1 r2 : Draw) (now : Time) {p : Pnsc}
    (v : BitVec 32) (hpos : 1 ≤ p.len.toNat) (hmax : p.len.toNat ≤ 16) :
    ∃ w, composedAdvances c trig km r1 r2 now (p.setResult v) =
      ((advancePhase c trig (probabilityOf km) r1 r2 now p).1,
        (advancePhase c trig (probabilityOf km) r1 r2 now p).2.setResult w) := by
  cases trig with
  | false => exact ⟨v, rfl⟩
  | true =>
    obtain ⟨w1, e1⟩ := composedAdvance_eq c .ch1 km r1 now v hpos hmax
    have hdiv : pnscAfter .divtick c (composedAdvance c .ch1 km r1 now (p.setResult v)) =
        (divtick (advance c .ch1 (probabilityOf km) r1 now p)).2.setResult
          (divtickWord (advance c .ch1 (probabilityOf km) r1 now p)) :=
      (congrArg _ e1).trans (pnscAfter_divtick ..)
    have hlen : (divtick (advance c .ch1 (probabilityOf km) r1 now p)).2.len = p.len := by
      rw [divtick_eq, advance_pnsc]
      rfl
    obtain ⟨w2, e2⟩ := composedAdvance_eq c .ch2 km r2 now
      (divtickWord (advance c .ch1 (probabilityOf km) r1 now p)) (hlen ▸ hpos) (hlen ▸ hmax)
    simp only [composedAdvances, hdiv, if_true, Bool.true_and, Pnsc.setResult_result, divtickWord_adv2, e2,
      advancePhase_trig]
    split
    · exact ⟨w2, rfl⟩
    · exact ⟨_, rfl⟩

/-- The registers that each phase of the composed tick reaches are those of the operation's phases; only `RESULT`
differs. -/
theorem composedTick_phases (sel : BitVec 2) (clk mod kx ky km : Byte) (now : Time) (r1 r2 : Draw) (s : State) :
    let b := (tickTrigger sel clk mod kx ky now s).1
    let d := tickAdvance sel clk mod kx ky km now r1 r2 s
    ∃ w, composedTick s.cfg sel clk mod kx ky km now r1 r2 s.pnsc =
      { pnsc := (display s.cfg now (d.2.setResult w)).2.setResult (displayWord (windowOpen d.2 now))
        advanced := d.2.setResult w
        trig := b.trig, plugged := b.plug, adv2 := d.1, tapedge := b.edge, tapacc := b.acc
        lenchg := (resolve s.cfg sel mod kx ky now s.pnsc).1
        dispwin := windowOpen d.2 now } := by
  obtain ⟨wb, eb⟩ := composedTrigger_eq s.cfg sel clk now (resolve s.cfg sel mod kx ky now s.pnsc).2
    (selectionWord (resolve s.cfg sel mod kx ky now s.pnsc).1 (lengthOf (lengthIndex kx))
      (divisorOf (divisorIndex s.cfg ky mod)) (scaleIndex s.cfg sel) km)
  obtain ⟨hpos, hmax⟩ := tickTrigger_len_range sel clk mod kx ky now s
  obtain ⟨wd, ed⟩ := composedAdvances_eq s.cfg (tickTrigger sel clk mod kx ky now s).1.trig km r1 r2 now
    (p := (tickTrigger sel clk mod kx ky now s).2) wb hpos hmax
  rw [tickTrigger] at ed
  refine ⟨wd, ?_⟩
  simp only [composedTick_eq, pnscAfter_resolve, eb, ed, pnscAfter_display, Pnsc.setResult_result,
    selectionWord_lenchg, displayWord_dispwin, windowOpen_setResult, tickAdvance, tickTrigger]

/-! ### The tick against the composed tick -/

/-- Flags below the selections as a number (R34, R248). -/
theorem resultWord_selectionPayload_eq (f : ResultFlags) (len div : BitVec 5) (scaleIdx : BitVec 3) (prob : Byte) :
    resultWord f (selectionPayload len div scaleIdx prob) = BitVec.ofNat 32
      (bitNat f.trig + 2 * bitNat f.plugged + 4 * bitNat f.adv1 + 8 * bitNat f.adv2 + 16 * bitNat f.tapedge
        + 32 * bitNat f.tapacc + 64 * bitNat f.lenchg + 128 * bitNat f.dispwin + 256 * len.toNat + 8192 * div.toNat
        + 2 ^ 18 * scaleIdx.toNat + 2 ^ 21 * prob.toNat) := by
  rw [resultWord_eq, flagByte_toNat, selectionPayload_toNat]
  congr 1
  omega

/-- The report of a tick as a number (R266). -/
theorem tickReport_eq (sel : BitVec 2) (clk mod kx ky km : Byte) (now : Time) (r1 r2 : Draw) (s : State) :
    let b := (tickTrigger sel clk mod kx ky now s).1
    let d := tickAdvance sel clk mod kx ky km now r1 r2 s
    tickReport s.cfg sel clk mod kx ky km now r1 r2 s.pnsc = BitVec.ofNat 32
      (bitNat b.trig + 2 * bitNat b.plug + 4 * bitNat b.trig + 8 * bitNat d.1 + 16 * bitNat b.edge + 32 * bitNat b.acc
        + 64 * bitNat (resolve s.cfg sel mod kx ky now s.pnsc).1 + 128 * bitNat (windowOpen d.2 now)
        + 256 * d.2.len.toNat + 8192 * d.2.div.toNat + 2 ^ 18 * d.2.scaleIdx.toNat + 2 ^ 21 * km.toNat) :=
  resultWord_selectionPayload_eq ..

/-- Phases (a) to (c) keep `RESULT`. -/
theorem tickAdvance_result (sel : BitVec 2) (clk mod kx ky km : Byte) (now : Time) (r1 r2 : Draw) (s : State) :
    (tickAdvance sel clk mod kx ky km now r1 r2 s).2.result = s.pnsc.result := by
  obtain ⟨st, iv, lt, lg, eb⟩ := tickTrigger_frame sel clk mod kx ky now s
  obtain ⟨l, li, d, si, lt', w, ea⟩ := resolve_frame s.cfg sel mod kx ky now s.pnsc
  obtain ⟨x, y, n, ec⟩ := advancePhase_frame s.cfg (tickTrigger sel clk mod kx ky now s).1.trig (probabilityOf km) r1 r2
    now (tickTrigger sel clk mod kx ky now s).2
  rw [tickAdvance, ec, eb, ea]
  rfl

/-- Only an open steady-state display may look at `RESULT`. -/
theorem displayLeds_setResult {c : Config} {now : Time} {p : Pnsc}
    (h : c.steady = .reference ∨ windowOpen p now = true) (w : BitVec 32) :
    displayLeds c now (p.setResult w) = displayLeds c now p := by
  cases hwin : windowOpen p now with
  | true =>
    rw [displayLeds_of_open hwin, displayLeds_of_open ((windowOpen_setResult p w now).trans hwin),
      Pnsc.setResult_lenIdx]
  | false =>
    have href : c.steady = .reference := h.resolve_right (by simp [hwin])
    rw [displayLeds_of_closed hwin, displayLeds_of_closed ((windowOpen_setResult p w now).trans hwin),
      steadyLeds_of_reference href, steadyLeds_of_reference href]
    rfl

/-- Settles O35: each phase of the composed tick reaches the registers of the operation's phase but for `RESULT`, which
the report overwrites and only an open steady-state display may see. -/
theorem tickEqualsComposedUnitCommands : Obligations.TickEqualsComposedUnitCommands := by
  intro s sel clk mod kx ky km now r1 r2
  obtain ⟨w, hu⟩ := composedTick_phases sel clk mod kx ky km now r1 r2 s
  have hreport := tickReport_eq sel clk mod kx ky km now r1 r2 s
  rw [hu]
  refine ⟨_, exec_tick sel clk mod kx ky km now r1 r2 s, ?_, fun h => ?_, fun hclosed id hother => ?_⟩
  · rw [tickNext, hreport]
    generalize tickAdvance sel clk mod kx ky km now r1 r2 s = d
    rfl
  · exact (displayLeds_setResult h w).symm
  · have hleds := displayLeds_of_closed (c := s.cfg) hclosed
    rw [steadyLeds_of_other hother] at hleds
    rw [← tickAdvance_result sel clk mod kx ky km now r1 r2 s]
    exact hleds

end Sys2Proof.Machine
end

section
/-! PROOFS. No exception and no stop (60_exceptions.md R290, R299), and the reset event (70_reset_and_hazards.md R310,
R320, R341): what a step does by the next input, the values after a reset event, and the first tick after it (R316). -/

namespace Sys2Proof.Machine

/-! ### A step by the next input (R299, R310, R320) -/

section Step

variable {s : State} {rest : List Input}

theorem step_of_access {x : Access} (h : s.inputs = .access x :: rest) :
    step s = exec (decode x) { s with inputs := rest } := by
  rw [step, takeInput, h]
  rfl

theorem step_of_reset {r : ResetInputs} (h : s.inputs = .reset r :: rest) :
    step s = .next (resetEvent r { s with inputs := rest }) := by
  rw [step, takeInput, h]
  rfl

/-- With nothing presented PNSC is idle (R299). -/
theorem step_of_idle (h : s.inputs = []) : step s = .next s := by
  rw [step, takeInput, h]

end Step

/-- Settles O6: by the next input. -/
theorem stepRunsTheDecodedInstruction : Obligations.StepRunsTheDecodedInstruction := fun _ =>
  ⟨fun _ _ => step_of_access, fun _ _ => step_of_reset, step_of_idle⟩

/-! ### No step stops (R290, R341) -/

/-- Settles O8: every instruction has a next state, and `Fault` has no constructor. -/
theorem everyInstructionCompletes : Obligations.EveryInstructionCompletes := ⟨exec_next, nofun⟩

/-- Every step answers a next state, whatever is presented. -/
theorem step_next (s : State) : ∃ t, step s = .next t := by
  cases h : s.inputs with
  | nil => exact ⟨s, step_of_idle h⟩
  | cons x rest =>
    cases x with
    | access x =>
      rw [step_of_access h]
      exact exec_next ..
    | reset r => exact ⟨_, step_of_reset h⟩

/-- A run takes its first step and goes on from there. -/
theorem run_succ {M : Host.Core} {s t : M.State} (hstep : M.step s = .next t) (k : Nat) :
    M.run (k + 1) s = M.run k t := by
  rw [Host.Core.run, hstep]

/-- Settles O9: by induction on the number of steps, from every state. -/
theorem everyRunContinues : Obligations.EveryRunContinues := by
  intro k
  induction k with
  | zero => exact fun s => ⟨s, rfl⟩
  | succ k ih =>
    intro s
    obtain ⟨t, ht⟩ := step_next s
    rw [RunsFor, run_succ (M := core) ht]
    exact ih t

/-! ### The values after a reset event (R310) -/

section Reset

variable {c : Config} (h : c.wellFormed = true) (r : ResetInputs)
include h

/-- `TAP_POS` lies in 0..2 (R9). -/
theorem tapPos_le : c.tapPos ≤ 2 := by
  simp only [Config.wellFormed, Config.tapPosOk, Bool.and_eq_true, decide_eq_true_eq] at h
  omega

/-- `TAP_INTERVAL_RESET` fits the interval's eleven bits. -/
theorem pnscReset_interval_toNat : (pnscReset c r).interval.toNat = c.tapIntervalReset := by
  obtain ⟨-, hhigh⟩ := tapIntervalReset_range h
  exact Nat.mod_eq_of_lt (hhigh.trans_lt (by decide))

/-- `TAP_POS` fits the selector's two bits. -/
theorem pnscReset_prevSel_toNat : (pnscReset c r).prevSel.toNat = c.tapPos :=
  Nat.mod_eq_of_lt ((tapPos_le h).trans_lt (by decide))

end Reset

/-- Settles O12: every value but the interval and the selector is a constant or comes with the event. -/
theorem resetEventAssignsTheStatedValues : Obligations.ResetEventAssignsTheStatedValues := fun _ r _ hcfg hin =>
  ⟨_, step_of_reset hin, rfl, rfl, rfl, rfl, rfl, pnscReset_interval_toNat hcfg r, pnscReset_prevSel_toNat hcfg r,
    rfl, rfl, rfl, rfl, rfl, rfl, rfl, rfl, rfl, rfl⟩

/-! ### The first tick after a reset event (R316) -/

section Held

variable {c : Config} {p : Pnsc} (h : p.prevSel.toNat = c.tapPos) (sel : BitVec 2) (now : Time)
include h

/-- After a selector at `TAP_POS` there is no edge, so no gap is accepted (R150 (e)). -/
theorem tap_acc_of_held : (tap c sel now p).1.acc = false := by
  rw [tap_acc, tapEdge_of_held h, Bool.false_and]

/-- After a selector at `TAP_POS` only the free-running test can fire, with the old interval (R145). -/
theorem tap_trig_of_held : (tap c sel now p).1.trig = decide (p.interval.toNat < elapsed now p.lastTrig) := by
  have hacc := tap_acc_of_held h sel now
  rw [tap_trig, hacc, Bool.false_or, freeRunning, tap_interval_toNat, hacc, if_neg Bool.false_ne_true]

end Held

/-- Settles O54: the reset event leaves `prev_sel` at `TAP_POS`, so the estimator finds no edge and its trigger is the
free-running test from `now_rst`. -/
theorem firstFreeRunningTriggerAfterReset : Obligations.FirstFreeRunningTriggerAfterReset := by
  intro s r clk mod kx ky km now r1 r2 hcfg hplug
  have hheld : (resetEvent r s).pnsc.prevSel.toNat = (resetEvent r s).cfg.tapPos := pnscReset_prevSel_toNat hcfg r
  refine ⟨_, exec_tick .., ?_⟩
  rw [tickNext_trig, tickNext_tapedge, tickNext_tapacc, tickTrigger_unplugged _ _ _ _ _ _ (resetEvent r s) hplug]
  refine ⟨?_, tapEdge_of_held hheld, tap_acc_of_held hheld ..⟩
  have hinterval : (resetEvent r s).pnsc.interval.toNat = s.cfg.tapIntervalReset := pnscReset_interval_toNat hcfg r
  have hlast : (resetEvent r s).pnsc.lastTrig = r.nowRst := rfl
  rw [← hinterval, ← hlast]
  exact tap_trig_of_held hheld ..

end Sys2Proof.Machine
end
